-- ==== Sys2Proof/Word.lean ====
section
/-! DEFINITION. Bytes, operation words and the names of the 16 host registers (R9, R40, R82). -/

namespace Sys2Proof

/-- A byte is 8 bits (R9). -/
abbrev Byte := BitVec 8

/-- A host operation is one 32-bit word, and so is a register (R40, R82). -/
abbrev Word := BitVec 32

/-- The 16 registers of the map of R40, in the order of their numbers 0x0..0xF. -/
inductive Reg where
  | status
  | rxinfo
  | timer
  | rxb0
  | rxb1
  | rxb2
  | result
  | fwdate
  | pm
  | vstat
  | txinfo
  | txb0
  | txb1
  | txb2
  | txb3
  | txb4
  deriving DecidableEq, Repr

end Sys2Proof
end

