-- ==== Sys2Proof/Config.lean ====
section
/-! DEFINITION. The fixed constants of R6 (each literal named once, R3) and the configuration parameters of R7
with the defaults of R121. -/

namespace Sys2Proof

/-- N_CMD: catalog entries (R6). -/
abbrev nCmd : Nat := 5

/-- HDR_LEN: header bytes per command (R6). -/
abbrev hdrLen : Nat := 5

/-- PAD_LEN: zero padding bytes in a command frame (R6). -/
abbrev padLen : Nat := 10

/-- CMD_FRAME_LEN: command frame length (R6). -/
abbrev cmdFrameLen : Nat := 19

/-- RESP_FRAME_LEN: response frame length (R6). -/
abbrev respFrameLen : Nat := 10

/-- The position of the tail sentinel in a response frame, its last byte (R81, R143). -/
abbrev tailOff : Nat := respFrameLen - 1

/-- The position of the checksum byte in a command frame, the byte before its tail (R80). -/
abbrev cmdCksumOff : Nat := cmdFrameLen - 2

/-- The position of the byte SUM_OK compares in a response frame (R146; PRESUMED, G4, log 12). -/
abbrev respCksumOff : Nat := 8

/-- The position of the first byte either diagnostic sum takes (R146, R148; PRESUMED, G4, G5, log 12). -/
abbrev sumFromOff : Nat := 2

/-- BUF_CAP: reader buffer capacity, and the largest legal target (R6, R161). -/
abbrev bufCap : Nat := 10

/-- DEADLINE_W: width of DEADLINE and ELAPSED (R6). -/
abbrev deadlineW : Nat := 12

/-- RESYNC_W: width of RESYNC_CNT (R6). -/
abbrev resyncW : Nat := 16

/-- HEAD: the head sentinel (R6). -/
abbrev headSentinel : Byte := 0xAA

/-- TAIL: the tail sentinel (R6). -/
abbrev tailSentinel : Byte := 0xAB

/-- The padding byte of a command frame, and the fill of unused buffer positions (R24, R80). -/
abbrev padByte : Byte := 0x00

/-- DEVID_WC: the device-id wildcard in command frames (R6). -/
abbrev devidWc : Vector Byte 2 := #v[0xFF, 0xFF]

/-- DATA_ID: the data-report response id (R6). -/
abbrev dataId : Byte := 0xC0

/-- ACK_ID: the firmware and mode-ack response id (R6). -/
abbrev ackId : Byte := 0xC5

/-- MODE_OFF: offset of the mode flag in a mode acknowledgement (R6). -/
abbrev modeOff : Nat := 4

/-- PM25_OFF: offset of the low byte of raw PM2.5 (R6). -/
abbrev pm25Off : Nat := 2

/-- PM10_OFF: offset of the low byte of raw PM10 (R6). -/
abbrev pm10Off : Nat := 4

/-- PM_DIVISOR: raw tenths to µg/m³ (R6, R196). -/
abbrev pmDivisor : Nat := 10

/-- The response class of a command: which decoder its response takes (R23). -/
inductive ResponseClass where
  | fw
  | mode
  | data
  deriving DecidableEq, Repr

/-- One catalog entry (R23). That a header has exactly 5 bytes (R7) is in its type. -/
structure CatalogEntry where
  header : Vector Byte hdrLen
  expId : Byte
  cksum : Byte
  cls : ResponseClass
  deriving DecidableEq, Repr

/-- The configuration parameters of R7. No event writes them. The firmware offsets index the 10-byte response
buffer; that they lie in 2..8 is checked by `Config.wf`. TICK_PERIOD is held in nanoseconds and no rule reads it
(DESIGN CHOICE, log 9). -/
structure Config where
  catalog : Vector CatalogEntry nCmd
  fwDayOff : Fin bufCap
  fwMonthOff : Fin bufCap
  fwYearOff : Fin bufCap
  tickPeriodNs : Nat
  deriving DecidableEq, Repr

/-- The default catalog of R121, codes 0..4 in the order set_active_mode, set_query_mode, get_report_mode,
query_data, check_firmware (R120). PRESUMED: header[1..4] and cksum are the spec's general knowledge (G2, log 6). -/
def Catalog.default : Vector CatalogEntry nCmd :=
  #v[{ header := #v[headSentinel, 0xB4, 0x02, 0x01, 0x00], expId := ackId, cksum := 0x01, cls := .mode },
     { header := #v[headSentinel, 0xB4, 0x02, 0x01, 0x01], expId := ackId, cksum := 0x02, cls := .mode },
     { header := #v[headSentinel, 0xB4, 0x02, 0x00, 0x00], expId := ackId, cksum := 0x00, cls := .mode },
     { header := #v[headSentinel, 0xB4, 0x04, 0x00, 0x00], expId := dataId, cksum := 0x02, cls := .data },
     { header := #v[headSentinel, 0xB4, 0x07, 0x00, 0x00], expId := ackId, cksum := 0x05, cls := .fw }]

/-- The default configuration of R7. PRESUMED: the firmware offsets 5, 4, 3 are the spec's general knowledge
(G3, log 7). -/
def Config.default : Config where
  catalog := Catalog.default
  fwDayOff := 5
  fwMonthOff := 4
  fwYearOff := 3
  tickPeriodNs := 1000000

end Sys2Proof
end

