-- ==== Sys2Proof/Syntax.lean ====
section
/-! DEFINITION. The host operations: one constructor per row of spec/opcode_table.json. -/

namespace Sys2Proof

/-- A legal host operation with its operands as R88 assembles them. A field's width is in its type, so every
operand value a word can carry is a term, and no other is (R93's range check on written numbers is
`AsmLine.wf`). CMD 5..7 and TARGET 11..15 are legal encodings (R92). -/
inductive Instr where
  /-- NOP (R83, R105). -/
  | nop
  /-- ENCODE CMD (R84, R122). -/
  | encode (cmd : BitVec 3)
  /-- COLLECT EXPID, TARGET, DEADLINE (R85, R160). -/
  | collect (expid : Byte) (target : BitVec 4) (deadline : BitVec deadlineW)
  /-- DECODE.AUTO (R86, R200). -/
  | decodeAuto
  /-- DECODE.FW (R86, R192). -/
  | decodeFw
  /-- DECODE.MODE (R86, R193). -/
  | decodeMode
  /-- DECODE.DATA (R86, R194). -/
  | decodeData
  /-- RDREG REG (R87, R104). -/
  | rdreg (reg : Reg)
  deriving DecidableEq, Repr

end Sys2Proof
end

