-- ==== Sys2Proof/WellFormed.lean ====
section
/-! DEFINITION. What the model refuses before it runs: an ill-formed configuration (R7, U14) and an assembler
line with an operand outside its field's range (R93). An `Instr` carries its field widths in its type, so it
needs no check of its own. -/

namespace Sys2Proof

/-- Every header's byte 0 is the head sentinel (R7). That a header has 5 bytes is in its type. -/
def Config.headersOk (c : Config) : Bool :=
  c.catalog.toList.all fun e => e.header[0] == headSentinel

/-- A firmware offset is one of 2..8, the type R7 gives the parameter. That a configuration with another offset is refused
is the model's choice (DESIGN CHOICE, log 7). -/
def Config.fwOffsetOk (o : Fin bufCap) : Bool :=
  decide (2 ≤ o.val ∧ o.val ≤ 8)

/-- A configuration a model may run with: a well-formed catalog (R7), and, by the model's choice, firmware offsets in their
range (log 7) and a positive tick period (log 9). -/
def Config.wf (c : Config) : Bool :=
  c.headersOk && Config.fwOffsetOk c.fwDayOff && Config.fwOffsetOk c.fwMonthOff &&
    Config.fwOffsetOk c.fwYearOff && decide (0 < c.tickPeriodNs)

/-- A command operand of an assembler line: a written number or a catalog name (R93, R94). -/
inductive CmdOperand where
  | code (n : Nat)
  | name (c : Fin nCmd)
  deriving DecidableEq, Repr

/-- A register operand of an assembler line: a written number or a register name (R93). -/
inductive RegOperand where
  | number (n : Nat)
  | name (r : Reg)
  deriving DecidableEq, Repr

/-- One assembler line, before the range check: the forms of R93 and the pseudo-operations of R94. -/
inductive AsmLine where
  | nop
  | encode (cmd : CmdOperand)
  | collect (expid target deadline : Nat)
  | decodeAuto
  | decodeFw
  | decodeMode
  | decodeData
  | rdreg (reg : RegOperand)
  | decode
  | collectFor (cmd : CmdOperand) (deadline : Nat)
  | read (reg : Reg)
  deriving DecidableEq, Repr

/-- A written command number is 0..7, the range of the field CMD (R88, R93). -/
def CmdOperand.fits : CmdOperand → Bool
  | .code n => decide (n < 2 ^ 3)
  | .name _ => true

/-- A command operand that names a catalog entry (R94: COLLECT.FOR reads CATALOG[cmd]). -/
def CmdOperand.inCatalog : CmdOperand → Bool
  | .code n => decide (n < nCmd)
  | .name _ => true

/-- A written register number is 0..15 (R88, R93). -/
def RegOperand.fits : RegOperand → Bool
  | .number n => decide (n < 2 ^ 4)
  | .name _ => true

/-- "An assembler refuses an operand outside its field's range rather than truncating it" (R93). -/
def AsmLine.wf : AsmLine → Bool
  | .nop => true
  | .encode cmd => cmd.fits
  | .collect expid target deadline =>
      decide (expid < 2 ^ 8) && decide (target < 2 ^ 4) && decide (deadline < 2 ^ deadlineW)
  | .decodeAuto => true
  | .decodeFw => true
  | .decodeMode => true
  | .decodeData => true
  | .rdreg reg => reg.fits
  | .decode => true
  | .collectFor cmd deadline => cmd.inCatalog && decide (deadline < 2 ^ deadlineW)
  | .read _ => true

end Sys2Proof
end

