-- ==== Sys2Proof/Decode.lean ====
section
/-! DEFINITION. The operation word: decoding, total and rejecting by name (R82 to R91), then the encoder, then the
opcode map of R89 as rows of pattern and mask. -/

namespace Sys2Proof

/-- Why a word is ILLEGAL (R91). -/
inductive IllegalWord where
  /-- OP is one of 0x5..0xF. -/
  | opcode (op : BitVec 4)
  /-- OP is legal and a field marked 0 (reserved) is not zero. -/
  | reservedField (op : BitVec 4)
  deriving DecidableEq, Repr

/-- The register a 4-bit number names (R40). -/
def Reg.ofNumber (n : BitVec 4) : Reg :=
  match n.toNat with
  | 0 => .status
  | 1 => .rxinfo
  | 2 => .timer
  | 3 => .rxb0
  | 4 => .rxb1
  | 5 => .rxb2
  | 6 => .result
  | 7 => .fwdate
  | 8 => .pm
  | 9 => .vstat
  | 10 => .txinfo
  | 11 => .txb0
  | 12 => .txb1
  | 13 => .txb2
  | 14 => .txb3
  | _ => .txb4

/-- The number of a register (R40). -/
def Reg.number : Reg → BitVec 4
  | .status => 0x0
  | .rxinfo => 0x1
  | .timer => 0x2
  | .rxb0 => 0x3
  | .rxb1 => 0x4
  | .rxb2 => 0x5
  | .result => 0x6
  | .fwdate => 0x7
  | .pm => 0x8
  | .vstat => 0x9
  | .txinfo => 0xA
  | .txb0 => 0xB
  | .txb1 => 0xC
  | .txb2 => 0xD
  | .txb3 => 0xE
  | .txb4 => 0xF

/-- OP = w[3:0] in every format (R82). -/
def opField (w : Word) : BitVec 4 := w.extractLsb' 0 4

/-- CMD = w[6:4] (R88). -/
def cmdField (w : Word) : BitVec 3 := w.extractLsb' 4 3

/-- EXPID = w[15:8] (R88). -/
def expidField (w : Word) : Byte := w.extractLsb' 8 8

/-- TARGET = w[19:16] (R88). -/
def targetField (w : Word) : BitVec 4 := w.extractLsb' 16 4

/-- DEADLINE = w[31:20] (R88). -/
def deadlineField (w : Word) : BitVec deadlineW := w.extractLsb' 20 deadlineW

/-- KIND = w[5:4] (R88). -/
def kindField (w : Word) : BitVec 2 := w.extractLsb' 4 2

/-- REG = w[7:4] (R88). -/
def regField (w : Word) : BitVec 4 := w.extractLsb' 4 4

/-- The DECODE form a KIND selects: 0 AUTO, 1 FW, 2 MODE, 3 DATA (R86). -/
def decodeForm (kind : BitVec 2) : Instr :=
  match kind.toNat with
  | 0 => .decodeAuto
  | 1 => .decodeFw
  | 2 => .decodeMode
  | _ => .decodeData

/-- Decoding is total: every word is one legal form or ILLEGAL (R90). -/
def decode (w : Word) : Except IllegalWord Instr :=
  match (opField w).toNat with
  | 0 => if w.extractLsb' 4 28 = 0#28 then .ok .nop else .error (.reservedField (opField w))
  | 1 => if w.extractLsb' 7 25 = 0#25 then .ok (.encode (cmdField w)) else .error (.reservedField (opField w))
  | 2 =>
      if w.extractLsb' 4 4 = 0#4 then .ok (.collect (expidField w) (targetField w) (deadlineField w))
      else .error (.reservedField (opField w))
  | 3 => if w.extractLsb' 6 26 = 0#26 then .ok (decodeForm (kindField w)) else .error (.reservedField (opField w))
  | 4 =>
      if w.extractLsb' 8 24 = 0#24 then .ok (.rdreg (Reg.ofNumber (regField w)))
      else .error (.reservedField (opField w))
  | _ => .error (.opcode (opField w))

/-- The word of an operation, from the formats N, E, C, D and R (R83 to R87). -/
def encode : Instr → Word
  | .nop => 0#28 ++ 0x0#4
  | .encode cmd => 0#25 ++ cmd ++ 0x1#4
  | .collect expid target deadline => deadline ++ target ++ expid ++ 0#4 ++ 0x2#4
  | .decodeAuto => 0#26 ++ 0#2 ++ 0x3#4
  | .decodeFw => 0#26 ++ 1#2 ++ 0x3#4
  | .decodeMode => 0#26 ++ 2#2 ++ 0x3#4
  | .decodeData => 0#26 ++ 3#2 ++ 0x3#4
  | .rdreg reg => 0#24 ++ reg.number ++ 0x4#4

/-- One row of the opcode map of R89: a word w selects it when (w & mask) = pattern. -/
structure OpcodeRow where
  mnemonic : String
  pattern : Word
  mask : Word
  deriving DecidableEq, Repr

/-- A word selects a row (R89). -/
def OpcodeRow.selects (r : OpcodeRow) (w : Word) : Bool := w &&& r.mask == r.pattern

/-- The row of an operation in the opcode map (R89). -/
def Instr.row : Instr → OpcodeRow
  | .nop => ⟨"NOP", 0x00000000, 0xFFFFFFFF⟩
  | .encode _ => ⟨"ENCODE", 0x00000001, 0xFFFFFF8F⟩
  | .collect _ _ _ => ⟨"COLLECT", 0x00000002, 0x000000FF⟩
  | .decodeAuto => ⟨"DECODE.AUTO", 0x00000003, 0xFFFFFFFF⟩
  | .decodeFw => ⟨"DECODE.FW", 0x00000013, 0xFFFFFFFF⟩
  | .decodeMode => ⟨"DECODE.MODE", 0x00000023, 0xFFFFFFFF⟩
  | .decodeData => ⟨"DECODE.DATA", 0x00000033, 0xFFFFFFFF⟩
  | .rdreg _ => ⟨"RDREG", 0x00000004, 0xFFFFFF0F⟩

/-- The opcode map (R89): the rows of the eight forms. -/
def opcodeMap : List OpcodeRow :=
  [Instr.row .nop, Instr.row (.encode 0), Instr.row (.collect 0 0 0), Instr.row .decodeAuto, Instr.row .decodeFw,
   Instr.row .decodeMode, Instr.row .decodeData, Instr.row (.rdreg .status)]

/-- The instruction the decoder reads from a table word: the low `nbits` bits of `w`, the bits above them zero. An
operation is one 32-bit word and no longer form exists (R82). -/
def decodeTableWord (nbits w : Nat) : Option Instr :=
  if w % 2 ^ nbits < 2 ^ 32 then (decode (BitVec.ofNat 32 (w % 2 ^ nbits))).toOption else none

end Sys2Proof
end

