-- ==== Sys2Proof/Machine/State.lean ====
section
/-! DEFINITION. The complete state of the block (R22), the state of its surroundings that the spec names (R31, R36),
the reasons a step can stop, and the state right after reset (R58). -/

namespace Sys2Proof.Machine

/-- DONE_CAUSE: why the last collection ended (R26). -/
inductive DoneCause where
  | none
  | full
  | deadline
  deriving DecidableEq, Repr

/-- ERR: the result code of the last operation that writes it (R30, R221). -/
inductive ErrCode where
  | ok
  | illegalOp
  | busy
  | unknownCmd
  | badTarget
  | noCmd
  deriving DecidableEq, Repr

/-- RES_KIND: which decoder produced the result (R32). -/
inductive ResKind where
  | none
  | fw
  | mode
  | data
  deriving DecidableEq, Repr

/-- RES_FAIL: why the last decode gave no result (R32, R149, R150). -/
inductive ResFail where
  | none
  | len
  | head
  | tail
  | id
  deriving DecidableEq, Repr

/-- MODE: the ModeState (R32, R197). -/
inductive ModeState where
  | active
  | query
  | unknown
  deriving DecidableEq, Repr

/-- The six atomic events of R13. RX names no byte: the byte is the next one the receive line holds (`State.rxLine`,
log 2). -/
inductive Event where
  /-- The host issues an operation word (R100). -/
  | op (w : Word)
  /-- The receive line offers its next byte (R165). -/
  | rx
  /-- The transmit line is ready to take a byte (R127). -/
  | tx
  /-- One timebase tick (R168). -/
  | tick
  /-- The reset input (R250). -/
  | reset
  /-- Nothing happens (R13). -/
  | idle
  deriving DecidableEq, Repr

/-- Why the block stops with a fault. There is no reason: an error "never stops the block" (R220), there is no trap
(R225), and no rule leaves an operation without an effect. -/
inductive Fault where
  deriving DecidableEq, Repr

/-- Why the model gives a step no meaning. -/
inductive Refusal where
  /-- Raised only by an arm of `exec` for an operation without a meaning yet; no arm raises it. Safe. -/
  | notModelled (mnemonic : String)
  /-- Raised by `step` and `clockCycle` in a state whose configuration is ill-formed: "A model refuses an ill-formed CATALOG
  and never runs with it" (R7, U14), and by the model's choice for a parameter outside its range (logs 7 and 9). Safe. -/
  | illFormedConfig
  deriving DecidableEq, Repr

/-- The state elements of R22, each under its own name, and the surroundings. LASTCMD is 0..4 by its type, and the
coded fields hold only values R41 and R47 allow (log 8). -/
structure State where
  /-- CATALOG and the other configuration parameters (R7, R23). -/
  config : Config
  /-- RXBUF[0..9] (R24). -/
  rxbuf : Vector Byte bufCap
  /-- RXLEN (R24). -/
  rxlen : BitVec 4
  /-- TARGET (R25). -/
  target : BitVec 4
  /-- EXPID (R25). -/
  expid : Byte
  /-- DEADLINE (R25). -/
  deadline : BitVec deadlineW
  /-- ELAPSED (R25). -/
  elapsed : BitVec deadlineW
  /-- RX_BUSY (R26). -/
  rxBusy : Bool
  /-- DONE_CAUSE (R26). -/
  doneCause : DoneCause
  /-- RESYNC_CNT (R27). -/
  resyncCnt : BitVec resyncW
  /-- TXBUF[0..18] (R28). -/
  txbuf : Vector Byte cmdFrameLen
  /-- TXPTR (R28). -/
  txptr : BitVec 5
  /-- LASTCMD (R29). -/
  lastcmd : Fin nCmd
  /-- LASTCMD_VALID (R29). -/
  lastcmdValid : Bool
  /-- ERR (R30). -/
  err : ErrCode
  /-- RES_KIND (R32). -/
  resKind : ResKind
  /-- RES_FAIL (R32). -/
  resFail : ResFail
  /-- MODE (R32). -/
  mode : ModeState
  /-- FW_DAY (R32). -/
  fwDay : Byte
  /-- FW_MONTH (R32). -/
  fwMonth : Byte
  /-- FW_YEAR (R32). -/
  fwYear : Byte
  /-- PM25_RAW (R32). -/
  pm25Raw : BitVec 16
  /-- PM10_RAW (R32). -/
  pm10Raw : BitVec 16
  /-- RDATA (R33). -/
  rdata : Word
  /-- Surroundings: the bytes the transport still holds, next byte first (R31, R36, log 2). -/
  rxLine : List Byte
  /-- Surroundings: the bytes the transmit line has received, oldest first (R127, log 3). -/
  txLine : List Byte
  /-- Surroundings: the events the environment has chosen, next event first (R13, log 1). -/
  sched : List Event
  deriving DecidableEq, Repr

/-- The block right after RESET with configuration `c` (R58), in surroundings that hold nothing and have nothing
scheduled (DESIGN CHOICE, logs 1 to 3). -/
def State.resetWith (c : Config) : State where
  config := c
  rxbuf := Vector.replicate bufCap 0x00
  rxlen := 0
  target := 0
  expid := 0x00
  deadline := 0
  elapsed := 0
  rxBusy := false
  doneCause := .none
  resyncCnt := 0
  txbuf := Vector.replicate cmdFrameLen 0x00
  txptr := BitVec.ofNat 5 cmdFrameLen
  lastcmd := 0
  lastcmdValid := false
  err := .ok
  resKind := .none
  resFail := .none
  mode := .active
  fwDay := 0x00
  fwMonth := 0x00
  fwYear := 0x00
  pm25Raw := 0x0000
  pm10Raw := 0x0000
  rdata := 0x00000000
  rxLine := []
  txLine := []
  sched := []

/-- The machine right after reset (R58, R250), with the default configuration of R7 and R121 (logs 6 and 7). -/
def State.reset : State := State.resetWith Config.default

end Sys2Proof.Machine
end

