-- ==== Sys2Proof/Machine/Flags.lean ====
section
/-! DEFINITION. The values that are functions of the state and are not stored (R34): the port and busy flags, and the
validator's predicates and checks (R140 to R150). -/

namespace Sys2Proof.Machine

/-- TX_BUSY = (TXPTR < 19) (R28, R34). -/
def State.txBusy (s : State) : Bool := decide (s.txptr.toNat < cmdFrameLen)

/-- The port rx_ready = RX_BUSY (R31, R34). -/
def State.rxReady (s : State) : Bool := s.rxBusy

/-- The port tx_valid = TX_BUSY (R31, R34). -/
def State.txValid (s : State) : Bool := s.txBusy

/-- The port tx_data = TXBUF[TXPTR] when TX_BUSY, else 0x00 (R31, R34). -/
def State.txData (s : State) : Byte :=
  if h : s.txptr.toNat < cmdFrameLen then s.txbuf[s.txptr.toNat] else 0x00

/-- LAST_EXPID: the expId of the last command, 0x00 with none (R34). -/
def State.lastExpid (s : State) : Byte :=
  if s.lastcmdValid then s.config.catalog[s.lastcmd].expId else 0x00

/-- LEN_OK (R140). -/
def State.lenOk (s : State) : Bool := decide (s.rxlen.toNat = respFrameLen)

/-- HEAD_OK (R141). -/
def State.headOk (s : State) : Bool := decide (1 ≤ s.rxlen.toNat) && s.rxbuf[0] == headSentinel

/-- ID_OK (R142). -/
def State.idOk (s : State) : Bool := decide (2 ≤ s.rxlen.toNat) && s.rxbuf[1] == s.expid

/-- TAIL_OK (R143). -/
def State.tailOk (s : State) : Bool := decide (s.rxlen.toNat = respFrameLen) && s.rxbuf[tailOff] == tailSentinel

/-- FRAME_VALID (R144). -/
def State.frameValid (s : State) : Bool := s.lenOk && s.headOk && s.idOk && s.tailOk

/-- The exact integer sum of some bytes (R9). -/
def byteSum (l : List Byte) : Nat := (l.map BitVec.toNat).sum

/-- SUM_OK, a diagnostic: byte 8 against the sum of bytes 2..7 modulo 256 (R146; PRESUMED range, G4, log 12). -/
def State.sumOk (s : State) : Bool :=
  decide (s.rxlen.toNat = respFrameLen) &&
    decide (s.rxbuf[respCksumOff].toNat =
      byteSum ((s.rxbuf.toList.drop sumFromOff).take (respCksumOff - sumFromOff)) % 256)

/-- CMD_SUM_OK, a diagnostic: TXBUF[17] against the sum of bytes 2..16 modulo 256 (R148; PRESUMED range, G5,
log 12). -/
def State.cmdSumOk (s : State) : Bool :=
  s.lastcmdValid &&
    decide (s.txbuf[cmdCksumOff].toNat =
      byteSum ((s.txbuf.toList.drop sumFromOff).take (cmdCksumOff - sumFromOff)) % 256)

/-- sync_ok: the reader's check of the first two bytes (R145). -/
def syncOk (rxbuf : Vector Byte bufCap) (expid : Byte) : Bool :=
  rxbuf[0] == headSentinel && rxbuf[1] == expid

/-- data_check: the first failing reason in the order LEN, HEAD, TAIL, ID (R149). -/
def State.dataCheck (s : State) : ResFail :=
  if s.rxlen.toNat ≠ respFrameLen then .len
  else if s.rxbuf[0] ≠ headSentinel then .head
  else if s.rxbuf[tailOff] ≠ tailSentinel then .tail
  else if s.rxbuf[1] ≠ dataId then .id
  else .none

/-- len_check: the only check of DECODE.FW and DECODE.MODE (R150). -/
def State.lenCheck (s : State) : ResFail :=
  if s.rxlen.toNat ≠ respFrameLen then .len else .none

end Sys2Proof.Machine
end

