-- ==== Sys2Proof/Machine/Operands.lean ====
section
/-! DEFINITION. What an operation reads: the register map (R40 to R56), the codes of the coded fields, and the numeric
laws of the decoder (R195 to R197). -/

namespace Sys2Proof.Machine

/-- DONE_CAUSE in STATUS[3:2] (R41). -/
def DoneCause.code : DoneCause → BitVec 2
  | .none => 0
  | .full => 1
  | .deadline => 2

/-- ERR in STATUS[7:4] (R41, R221). -/
def ErrCode.code : ErrCode → BitVec 4
  | .ok => 0
  | .illegalOp => 1
  | .busy => 2
  | .unknownCmd => 3
  | .badTarget => 4
  | .noCmd => 5

/-- RES_KIND in RESULT[1:0] (R47). -/
def ResKind.code : ResKind → BitVec 2
  | .none => 0
  | .fw => 1
  | .mode => 2
  | .data => 3

/-- RES_FAIL in RESULT[4:2] (R47). -/
def ResFail.code : ResFail → BitVec 3
  | .none => 0
  | .len => 1
  | .head => 2
  | .tail => 3
  | .id => 4

/-- MODE in RESULT[6:5] (R47, R197). -/
def ModeState.code : ModeState → BitVec 2
  | .active => 0
  | .query => 1
  | .unknown => 2

/-- One flag as a bit. -/
def flagBit (b : Bool) : BitVec 1 := BitVec.ofBool b

/-- LASTCMD as the 3 bits of STATUS[11:9] (R41). -/
def lastcmdBits (c : Fin nCmd) : BitVec 3 := BitVec.ofNat 3 c.val

/-- Four bytes in a register, the byte with the lowest index in bits [7:0] (R40, R63). -/
def lanes (b0 b1 b2 b3 : Byte) : Word := b3 ++ b2 ++ b1 ++ b0

/-- STATUS (R41). -/
def State.status (s : State) : Word :=
  0#20 ++ lastcmdBits s.lastcmd ++ flagBit s.lastcmdValid ++ s.err.code ++ s.doneCause.code ++ flagBit s.txBusy ++
    flagBit s.rxBusy

/-- RXINFO (R42). -/
def State.rxinfo (s : State) : Word := s.resyncCnt ++ s.expid ++ s.target ++ s.rxlen

/-- TIMER (R43). -/
def State.timer (s : State) : Word := 0#4 ++ s.elapsed ++ 0#4 ++ s.deadline

/-- RESULT (R47). -/
def State.result (s : State) : Word := 0#25 ++ s.mode.code ++ s.resFail.code ++ s.resKind.code

/-- FWDATE (R48). -/
def State.fwdate (s : State) : Word := lanes s.fwDay s.fwMonth s.fwYear 0x00

/-- PM (R49). -/
def State.pm (s : State) : Word := s.pm10Raw ++ s.pm25Raw

/-- VSTAT (R50). -/
def State.vstat (s : State) : Word :=
  0#26 ++ flagBit s.sumOk ++ flagBit s.frameValid ++ flagBit s.tailOk ++ flagBit s.idOk ++ flagBit s.headOk ++
    flagBit s.lenOk

/-- TXINFO (R51). -/
def State.txinfo (s : State) : Word := 0#16 ++ s.lastExpid ++ 0#2 ++ flagBit s.cmdSumOk ++ s.txptr

/-- REG(n): the value the register map gives a register (R10, R40 to R56). -/
def State.reg (s : State) : Reg → Word
  | .status => s.status
  | .rxinfo => s.rxinfo
  | .timer => s.timer
  | .rxb0 => lanes s.rxbuf[0] s.rxbuf[1] s.rxbuf[2] s.rxbuf[3]
  | .rxb1 => lanes s.rxbuf[4] s.rxbuf[5] s.rxbuf[6] s.rxbuf[7]
  | .rxb2 => lanes s.rxbuf[8] s.rxbuf[9] 0x00 0x00
  | .result => s.result
  | .fwdate => s.fwdate
  | .pm => s.pm
  | .vstat => s.vstat
  | .txinfo => s.txinfo
  | .txb0 => lanes s.txbuf[0] s.txbuf[1] s.txbuf[2] s.txbuf[3]
  | .txb1 => lanes s.txbuf[4] s.txbuf[5] s.txbuf[6] s.txbuf[7]
  | .txb2 => lanes s.txbuf[8] s.txbuf[9] s.txbuf[10] s.txbuf[11]
  | .txb3 => lanes s.txbuf[12] s.txbuf[13] s.txbuf[14] s.txbuf[15]
  | .txb4 => lanes s.txbuf[16] s.txbuf[17] s.txbuf[18] 0x00

/-- A raw PM pattern from its two frame bytes, low byte first (R62, R195). -/
def rawPm (lo hi : Byte) : BitVec 16 := hi ++ lo

/-- s16(lo, hi): the 16-bit two's-complement integer of two bytes (R9). -/
def s16 (lo hi : Byte) : Int :=
  (hi.toNat : Int) * 256 + (lo.toNat : Int) - (if 0x80 ≤ hi.toNat then 65536 else 0)

/-- value(raw): the signed meaning of a raw PM pattern (R195). -/
def pmValue (raw : BitVec 16) : Int := s16 (raw.extractLsb' 0 8) (raw.extractLsb' 8 8)

/-- The concentration in µg/m³ that whoever reads PM computes: the exact rational value(raw) / PM_DIVISOR (R196). The
block outputs raw values only, and no operation calls this. -/
def pmPhysical (raw : BitVec 16) : Rat := mkRat (pmValue raw) pmDivisor

/-- mode_of: 0 is Active, 1 is Query, anything else Unknown (R197). -/
def modeOf (b : Byte) : ModeState :=
  if b = 0x00 then .active else if b = 0x01 then .query else .unknown

end Sys2Proof.Machine
end

