-- ==== Sys2Proof/Machine/Ops.lean ====
section
/-! DEFINITION. The shared operations of the block: raising an error, the busy check, the frame function, the reader's
end check and discard, clearing the results, and the RX, TX, TICK and RESET events. -/

namespace Sys2Proof.Machine

/-- `raise Err(code)`: ERR <- code, and nothing else changes (R11, R220). It is this block's whole taking of an
exception: there is no trap entry and no return (R225, R226). -/
def State.raise (e : ErrCode) (s : State) : State := { s with err := e }

/-- refused_busy: the cells of R103 marked BUSY. -/
def State.refusedBusy (s : State) : Instr → Bool
  | .nop => false
  | .encode _ => s.rxBusy || s.txBusy
  | .collect _ _ _ => s.rxBusy || s.txBusy
  | .decodeAuto => s.rxBusy
  | .decodeFw => s.rxBusy
  | .decodeMode => s.rxBusy
  | .decodeData => s.rxBusy
  | .rdreg _ => false

/-- The issue of a decoded operation: the busy check, then its body (R100). No operation stops the block. -/
def issue (i : Instr) (body : State → State) (s : State) : Host.Outcome State Fault Refusal :=
  .next (if s.refusedBusy i then s.raise .busy else body s)

/-- The frame function (R123): header, 10 zero bytes, the device-id wildcard, the tabulated checksum byte, the
tail. -/
def frame (e : CatalogEntry) : Vector Byte cmdFrameLen :=
  e.header ++ Vector.replicate padLen padByte ++ devidWc ++ #v[e.cksum, tailSentinel]

/-- end_check: a full buffer first, then the deadline (R162). -/
def State.endCheck (s : State) : State :=
  if s.rxBusy = true ∧ s.target.toNat ≤ s.rxlen.toNat then { s with rxBusy := false, doneCause := .full }
  else if s.rxBusy = true ∧ s.deadline.toNat ≤ s.elapsed.toNat then
    { s with rxBusy := false, doneCause := .deadline }
  else s

/-- An empty receive buffer: every position 0x00 (R24). -/
def emptyRxbuf : Vector Byte bufCap := Vector.replicate bufCap padByte

/-- min(RESYNC_CNT + 1, 0xFFFF) (R27, R166). -/
def resyncNext (c : BitVec resyncW) : BitVec resyncW :=
  BitVec.ofNat resyncW (min (c.toNat + 1) (2 ^ resyncW - 1))

/-- discard: resynchronisation by full discard (R166). ELAPSED and DEADLINE are not touched. -/
def State.discard (s : State) : State :=
  { s with rxbuf := emptyRxbuf, rxlen := 0, resyncCnt := resyncNext s.resyncCnt }

/-- The first line of RX: append the byte (R165). The write is in range in every reachable state (R35 (c)); in a state
no run reaches it writes nothing past the buffer (DESIGN CHOICE, log 10). -/
def State.appendByte (b : Byte) (s : State) : State :=
  { s with rxbuf := s.rxbuf.setIfInBounds s.rxlen.toNat b, rxlen := s.rxlen + 1 }

/-- The second line of RX: discard when two or more bytes fail the check (R145, R165, R166). -/
def State.resync (s : State) : State :=
  if 2 ≤ s.rxlen.toNat ∧ syncOk s.rxbuf s.expid = false then s.discard else s

/-- RX(b): accept one byte (R165). Enabled when rx_ready = 1, which the caller checks. -/
def State.rxByte (b : Byte) (s : State) : State := (s.appendByte b).resync.endCheck

/-- The receive line offers its next byte: it moves when rx_ready = 1, and otherwise stays with the transport (R13,
R31, U20, log 4). -/
def State.rxEvent (s : State) : State :=
  match s.rxLine with
  | [] => s
  | b :: rest => if s.rxReady then State.rxByte b { s with rxLine := rest } else s

/-- The transmit line is ready: it takes TXBUF[TXPTR] when tx_valid = 1, and otherwise nothing happens (R13, R31,
R127, log 4). -/
def State.txEvent (s : State) : State :=
  if s.txValid then { s with txptr := s.txptr + 1, txLine := s.txLine ++ [s.txData] } else s

/-- TICK: counts while a collection runs (R168). -/
def State.tickEvent (s : State) : State :=
  if s.rxBusy then State.endCheck { s with elapsed := s.elapsed + 1 } else s

/-- RESET: every state element takes its value of R58, the configuration is kept (R250), and the surroundings are not
reached (R252). -/
def State.resetEvent (s : State) : State :=
  { State.resetWith s.config with rxLine := s.rxLine, txLine := s.txLine, sched := s.sched }

/-- clear_results, with ERR <- OK (R191). -/
def State.clearResults (s : State) : State :=
  { s with
    resKind := .none
    resFail := .none
    mode := .active
    fwDay := 0x00
    fwMonth := 0x00
    fwYear := 0x00
    pm25Raw := 0x0000
    pm10Raw := 0x0000
    err := .ok }

/-- The shared shape of a decoder: clear, check, then either the result or the failing reason (R190 to R194). -/
def State.decodeWith (check : State → ResFail) (result : State → State) (s : State) : State :=
  match check s.clearResults with
  | .none => result s.clearResults
  | r => { s.clearResults with resFail := r }

/-- The DECODE.FW result (R192, R198). -/
def State.fwResult (s : State) : State :=
  { s with
    resKind := .fw
    fwDay := s.rxbuf[s.config.fwDayOff]
    fwMonth := s.rxbuf[s.config.fwMonthOff]
    fwYear := s.rxbuf[s.config.fwYearOff] }

/-- The DECODE.MODE result (R193). -/
def State.modeResult (s : State) : State :=
  { s with resKind := .mode, mode := modeOf s.rxbuf[modeOff] }

/-- The DECODE.DATA result (R194, R195). -/
def State.dataResult (s : State) : State :=
  { s with
    resKind := .data
    pm25Raw := rawPm s.rxbuf[pm25Off] s.rxbuf[pm25Off + 1]
    pm10Raw := rawPm s.rxbuf[pm10Off] s.rxbuf[pm10Off + 1] }

/-- The body of DECODE.FW (R192). -/
def State.decodeFwBody (s : State) : State := s.decodeWith State.lenCheck State.fwResult

/-- The body of DECODE.MODE (R193). -/
def State.decodeModeBody (s : State) : State := s.decodeWith State.lenCheck State.modeResult

/-- The body of DECODE.DATA (R194). -/
def State.decodeDataBody (s : State) : State := s.decodeWith State.dataCheck State.dataResult

/-- The body of DECODE.AUTO: NO_CMD, or the decoder of the last command's class (R200, R201). -/
def State.decodeAutoBody (s : State) : State :=
  if s.lastcmdValid then
    match s.config.catalog[s.lastcmd].cls with
    | .fw => s.decodeFwBody
    | .mode => s.decodeModeBody
    | .data => s.decodeDataBody
  else s.raise .noCmd

/-- The body of ENCODE (R122). -/
def State.encodeBody (cmd : BitVec 3) (s : State) : State :=
  if h : cmd.toNat < nCmd then
    { s with
      txbuf := frame s.config.catalog[cmd.toNat]
      txptr := 0
      lastcmd := ⟨cmd.toNat, h⟩
      lastcmdValid := true
      err := .ok }
  else s.raise .unknownCmd

/-- The body of COLLECT (R160, R161). -/
def State.collectBody (expid : Byte) (target : BitVec 4) (deadline : BitVec deadlineW) (s : State) : State :=
  if bufCap < target.toNat then s.raise .badTarget
  else
    State.endCheck
      { s with
        rxbuf := emptyRxbuf
        rxlen := 0
        expid := expid
        target := target
        deadline := deadline
        elapsed := 0
        doneCause := .none
        resyncCnt := 0
        rxBusy := true
        err := .ok }

end Sys2Proof.Machine
end

