-- ==== Sys2Proof/Machine/Access.lean ====
section
/-! DEFINITION. The access family: NOP and RDREG (R104, R105). -/

namespace Sys2Proof.Machine

/-- NOP: nothing; ERR is unchanged (R105). -/
def execNop (s : State) : Host.Outcome State Fault Refusal := issue .nop id s

/-- RDREG: RDATA <- REG(n), computed from the state before this event; ERR is unchanged (R104). -/
def execRdreg (reg : Reg) (s : State) : Host.Outcome State Fault Refusal :=
  issue (.rdreg reg) (fun s => { s with rdata := s.reg reg }) s

end Sys2Proof.Machine
end

