-- ==== Sys2Proof/Machine/Decoder.lean ====
section
/-! DEFINITION. The decoder family: DECODE.AUTO, DECODE.FW, DECODE.MODE and DECODE.DATA (R190 to R203). -/

namespace Sys2Proof.Machine

/-- DECODE.AUTO: decode by the command that produced the frame (R200, R201). -/
def execDecodeAuto (s : State) : Host.Outcome State Fault Refusal := issue .decodeAuto State.decodeAutoBody s

/-- DECODE.FW: decode a firmware-date response (R192). -/
def execDecodeFw (s : State) : Host.Outcome State Fault Refusal := issue .decodeFw State.decodeFwBody s

/-- DECODE.MODE: decode a mode acknowledgement (R193). -/
def execDecodeMode (s : State) : Host.Outcome State Fault Refusal := issue .decodeMode State.decodeModeBody s

/-- DECODE.DATA: decode a particulate-matter data report (R194). -/
def execDecodeData (s : State) : Host.Outcome State Fault Refusal := issue .decodeData State.decodeDataBody s

end Sys2Proof.Machine
end

