-- ==== Sys2Proof/Machine/Encoder.lean ====
section
/-! DEFINITION. The encoder family: ENCODE (R122 to R129). -/

namespace Sys2Proof.Machine

/-- ENCODE: build a command frame and start sending it (R122). -/
def execEncode (cmd : BitVec 3) (s : State) : Host.Outcome State Fault Refusal :=
  issue (.encode cmd) (State.encodeBody cmd) s

end Sys2Proof.Machine
end

