-- ==== Sys2Proof/Machine/Reader.lean ====
section
/-! DEFINITION. The reader family: COLLECT (R160 to R164). -/

namespace Sys2Proof.Machine

/-- COLLECT: start collecting a response frame (R160). -/
def execCollect (expid : Byte) (target : BitVec 4) (deadline : BitVec deadlineW) (s : State) :
    Host.Outcome State Fault Refusal :=
  issue (.collect expid target deadline) (State.collectBody expid target deadline) s

end Sys2Proof.Machine
end

