-- ==== Sys2Proof/Machine/Dispatch.lean ====
section
/-! DEFINITION. exec: the meaning of every host operation, one arm per constructor of Instr. -/

namespace Sys2Proof.Machine

/-- What a decoded operation does in a state (R100, after the ILLEGAL check). -/
def exec (i : Instr) (s : State) : Host.Outcome State Fault Refusal :=
  match i with
  | .nop => Sys2Proof.Machine.execNop s
  | .encode cmd => Sys2Proof.Machine.execEncode cmd s
  | .collect expid target deadline => Sys2Proof.Machine.execCollect expid target deadline s
  | .decodeAuto => Sys2Proof.Machine.execDecodeAuto s
  | .decodeFw => Sys2Proof.Machine.execDecodeFw s
  | .decodeMode => Sys2Proof.Machine.execDecodeMode s
  | .decodeData => Sys2Proof.Machine.execDecodeData s
  | .rdreg reg => Sys2Proof.Machine.execRdreg reg s

end Sys2Proof.Machine
end

