-- ==== Sys2Proof/Machine/Events.lean ====
section
/-! DEFINITION. What one event does (R13): the OP event with its ILLEGAL check (R100, R106), and the events of the
surroundings. -/

namespace Sys2Proof.Machine

/-- OP(w): decode, raise ILLEGAL_OP for a word without a form, else perform the form, whose own first check is BUSY
(R100, R106, R222). -/
def opEvent (w : Word) (s : State) : Host.Outcome State Fault Refusal :=
  match decode w with
  | .error _ => .next (s.raise .illegalOp)
  | .ok i => exec i s

/-- The effect of one event (R13). -/
def applyEvent (e : Event) (s : State) : Host.Outcome State Fault Refusal :=
  match e with
  | .op w => opEvent w s
  | .rx => .next s.rxEvent
  | .tx => .next s.txEvent
  | .tick => .next s.tickEvent
  | .reset => .next s.resetEvent
  | .idle => .next s

/-- The environment's next event and the state with it taken off the schedule. With nothing scheduled, IDLE happens
(R13, log 1). -/
def State.nextEvent (s : State) : Event × State :=
  match s.sched with
  | [] => (.idle, s)
  | e :: rest => (e, { s with sched := rest })

/-- The operation word a table word of `nbits` bits stands for, the bits above them zero (R82). -/
def tableWord (nbits w : Nat) : Word := BitVec.ofNat 32 (w % 2 ^ nbits)

end Sys2Proof.Machine
end

