-- ==== Sys2Proof/Machine/Step.lean ====
section
/-! DEFINITION. One step of the machine: the environment's next event, applied atomically (R13, R67). -/

namespace Sys2Proof.Machine

/-- One step. A model never runs with an ill-formed configuration (R7); otherwise the step takes the environment's
next event and applies it (R13, log 1). -/
def step (s : State) : Host.Outcome State Fault Refusal :=
  if s.config.wf then applyEvent s.nextEvent.1 s.nextEvent.2 else .refused .illFormedConfig

/-- The host issues this word next: the block fetches nothing (R21), so the word is put at the head of the schedule
(R101, log 5). -/
def State.withFetchWord (s : State) (nbits w : Nat) : State :=
  { s with sched := .op (tableWord nbits w) :: s.sched }

end Sys2Proof.Machine
end

