-- ==== Sys2Proof/Machine/Assembly.lean ====
section
/-! DEFINITION. The assembler of R93 and R94: one line of text to an operation, and the expansion of the
pseudo-operations. Characters are a list, as the kernel evaluates lists. -/

namespace Sys2Proof.Machine

/-- The command code of a command operand (R120). -/
def commandCode : CmdOperand → Nat
  | .code n => n
  | .name c => c.val

/-- The catalog entry of a command operand, for the operands that name one (R94). -/
def commandEntry (cfg : Config) (cmd : CmdOperand) : Option CatalogEntry := cfg.catalog[commandCode cmd]?

/-- The register of a register operand (R40). -/
def registerOf : RegOperand → Reg
  | .number n => Reg.ofNumber (BitVec.ofNat 4 n)
  | .name r => r

/-- The operation of an assembler line whose operands fit (R93), with the expansions of R94: COLLECT.FOR takes the
expId of the configured catalog and target 10. -/
def expandLine (cfg : Config) : AsmLine → Option Instr
  | .nop => some .nop
  | .encode cmd => some (.encode (BitVec.ofNat 3 (commandCode cmd)))
  | .collect expid target deadline =>
      some (.collect (BitVec.ofNat 8 expid) (BitVec.ofNat 4 target) (BitVec.ofNat deadlineW deadline))
  | .decodeAuto => some .decodeAuto
  | .decodeFw => some .decodeFw
  | .decodeMode => some .decodeMode
  | .decodeData => some .decodeData
  | .rdreg reg => some (.rdreg (registerOf reg))
  | .decode => some .decodeAuto
  | .collectFor cmd deadline =>
      (commandEntry cfg cmd).map fun e =>
        .collect e.expId (BitVec.ofNat 4 respFrameLen) (BitVec.ofNat deadlineW deadline)
  | .read reg => some (.rdreg reg)

/-- The assembler: it refuses an operand outside its field's range rather than truncating it (R93). -/
def assemble (cfg : Config) (line : AsmLine) : Option Instr :=
  if line.wf then expandLine cfg line else none

/-- A blank between the words of a line (DESIGN CHOICE, log 13). -/
def isBlank (c : Char) : Bool := c == ' ' || c == '\t'

/-- A line without its comment: ";" starts a comment (R93). -/
def stripComment (l : List Char) : List Char := l.takeWhile fun c => c != ';'

/-- A text without the blanks at its two ends. -/
def trim (l : List Char) : List Char := (((l.dropWhile isBlank).reverse).dropWhile isBlank).reverse

/-- The operands between the commas (R93). -/
def splitCommas : List Char → List (List Char)
  | [] => [[]]
  | c :: cs =>
      if c == ',' then [] :: splitCommas cs
      else
        match splitCommas cs with
        | [] => [[c]]
        | w :: ws => (c :: w) :: ws

/-- The value of a digit below 16. -/
def digitValue (c : Char) : Option Nat :=
  if '0' ≤ c ∧ c ≤ '9' then some (c.toNat - '0'.toNat)
  else if 'a' ≤ c ∧ c ≤ 'f' then some (c.toNat - 'a'.toNat + 10)
  else if 'A' ≤ c ∧ c ≤ 'F' then some (c.toNat - 'A'.toNat + 10)
  else none

/-- The digits of a number in a base, continued from the value of the digits before them. -/
def digitsFrom (base : Nat) : Nat → List Char → Option Nat
  | acc, [] => some acc
  | acc, c :: cs =>
      match digitValue c with
      | some d => if d < base then digitsFrom base (acc * base + d) cs else none
      | none => none

/-- Numbers are decimal or `0x` hexadecimal (R93). -/
def parseNumber : List Char → Option Nat
  | [] => none
  | '0' :: 'x' :: c :: cs => digitsFrom 16 0 (c :: cs)
  | c :: cs => digitsFrom 10 0 (c :: cs)

/-- The catalog names, in the order of their codes (R120). -/
def commandNames : List (List Char × Fin nCmd) :=
  [("set_active_mode".toList, 0), ("set_query_mode".toList, 1), ("get_report_mode".toList, 2),
   ("query_data".toList, 3), ("check_firmware".toList, 4)]

/-- The register names of the map (R40). -/
def registerNames : List (List Char × Reg) :=
  [("STATUS".toList, .status), ("RXINFO".toList, .rxinfo), ("TIMER".toList, .timer), ("RXB0".toList, .rxb0),
   ("RXB1".toList, .rxb1), ("RXB2".toList, .rxb2), ("RESULT".toList, .result), ("FWDATE".toList, .fwdate)] ++
  [("PM".toList, .pm), ("VSTAT".toList, .vstat), ("TXINFO".toList, .txinfo), ("TXB0".toList, .txb0),
   ("TXB1".toList, .txb1), ("TXB2".toList, .txb2), ("TXB3".toList, .txb3), ("TXB4".toList, .txb4)]

/-- A command operand: a catalog name, or else a number (R93). -/
def parseCommand (l : List Char) : Option CmdOperand :=
  match commandNames.lookup l with
  | some c => some (.name c)
  | none => (parseNumber l).map .code

/-- A register operand: a register name, or else a number (R93). -/
def parseRegister (l : List Char) : Option RegOperand :=
  match registerNames.lookup l with
  | some r => some (.name r)
  | none => (parseNumber l).map .number

/-- The mnemonics without an operand (R93, R94). -/
def plainMnemonics : List (List Char × AsmLine) :=
  [("NOP".toList, .nop), ("DECODE.AUTO".toList, .decodeAuto), ("DECODE.FW".toList, .decodeFw),
   ("DECODE.MODE".toList, .decodeMode), ("DECODE.DATA".toList, .decodeData), ("DECODE".toList, .decode)]

/-- The line of a mnemonic and its operands (R93, R94). -/
def parseForm (mnemonic : List Char) (operands : List (List Char)) : Option AsmLine :=
  match operands with
  | [] => plainMnemonics.lookup mnemonic
  | [a] =>
      if mnemonic = "ENCODE".toList then (parseCommand a).map .encode
      else if mnemonic = "RDREG".toList then (parseRegister a).map .rdreg
      else if mnemonic = "READ".toList then (registerNames.lookup a).map .read
      else none
  | [a, b] =>
      if mnemonic = "COLLECT.FOR".toList then
        match parseCommand a, parseNumber b with
        | some cmd, some deadline => some (.collectFor cmd deadline)
        | _, _ => none
      else none
  | [a, b, c] =>
      if mnemonic = "COLLECT".toList then
        match parseNumber a, parseNumber b, parseNumber c with
        | some expid, some target, some deadline => some (.collect expid target deadline)
        | _, _, _ => none
      else none
  | _ => none

/-- What one line of text holds. -/
inductive LineText where
  /-- Blanks or a comment only. -/
  | empty
  /-- One operation. -/
  | operation (line : AsmLine)
  /-- No form of R93 or R94. -/
  | unreadable
  deriving DecidableEq, Repr

/-- One line of assembler text: mnemonic first, operands separated by commas (R93). -/
def parseLine (text : List Char) : LineText :=
  let body := trim (stripComment text)
  let mnemonic := body.takeWhile fun c => !isBlank c
  let rest := trim (body.dropWhile fun c => !isBlank c)
  let operands := if rest = [] then [] else (splitCommas rest).map trim
  if body = [] then .empty
  else
    match parseForm mnemonic operands with
    | some line => .operation line
    | none => .unreadable

/-- The word of one line of text, where the line holds an operation the assembler accepts (R93, R94). -/
def assembleText (cfg : Config) (text : String) : Option Word :=
  match parseLine text.toList with
  | .operation line => (assemble cfg line).map encode
  | _ => none

end Sys2Proof.Machine
end

