-- ==== Sys2Proof/Machine/Cycle.lean ====
section
/-! DEFINITION. The ports of R31 and one clock cycle of a synchronous implementation (R14, R269), as a sequence of the
events of R13. -/

namespace Sys2Proof.Machine

/-- The input ports of R31 in one clock cycle. rx_data is the next byte the transport holds (log 2). -/
structure Inputs where
  rst : Bool
  opValid : Bool
  opWord : Word
  rxValid : Bool
  txReady : Bool
  tick : Bool
  deriving DecidableEq, Repr

/-- The output ports of R31. -/
structure Outputs where
  rdata : Word
  rxReady : Bool
  txValid : Bool
  txData : Byte
  deriving DecidableEq, Repr

/-- The outputs the block drives in a state (R31, R33, R34). -/
def State.outputs (s : State) : Outputs where
  rdata := s.rdata
  rxReady := s.rxReady
  txValid := s.txValid
  txData := s.txData

/-- The events one clock cycle applies, in the order RESET alone, else OP, RX, TX, TICK (R14). A byte moves when valid
and ready are both 1 (R31), with rx_ready and tx_valid as the block drives them in that cycle (DESIGN CHOICE,
log 11). -/
def State.cycleEvents (s : State) (i : Inputs) : List Event :=
  if i.rst then [.reset]
  else
    (if i.opValid then [.op i.opWord] else []) ++ (if i.rxValid && s.rxReady then [.rx] else []) ++
      (if i.txReady && s.txValid then [.tx] else []) ++ (if i.tick then [.tick] else [])

/-- Some events applied one by one, stopping at the first fault or refusal. -/
def applyEvents : List Event → State → Host.Outcome State Fault Refusal
  | [], s => .next s
  | e :: es, s =>
      match applyEvent e s with
      | .next s' => applyEvents es s'
      | .fault r => .fault r
      | .refused r => .refused r

/-- One clock cycle (R14, R269): the cycle's events applied one by one. Like `step`, it never runs with an ill-formed
configuration (R7). -/
def clockCycle (i : Inputs) (s : State) : Host.Outcome State Fault Refusal :=
  if s.config.wf then applyEvents (s.cycleEvents i) s else .refused .illFormedConfig

/-- The cycle's events put at the head of the schedule, so that as many steps run the cycle. -/
def State.withCycle (s : State) (i : Inputs) : State := { s with sched := s.cycleEvents i ++ s.sched }

end Sys2Proof.Machine
end

