-- ==== Sys2Proof/Machine/PollCycle.lean ====
section
/-! DEFINITION. The host's poll cycle (R262 to R266), an agent OUTSIDE the block (R5 (b)): which operation the host
issues next from what the registers show, and its next state. No step of the block reads it; its words reach the block
through the schedule like any other host operation. -/

namespace Sys2Proof.Machine

/-- The states of the poll cycle (R262). -/
inductive PollPhase where
  | idle
  | awaitingSettle
  | readingFrame
  | decoded
  | failed
  deriving DecidableEq, Repr

/-- The host's parameters: the command it polls, its deadline D in ticks, and the OPEN delays SETTLE_TIME and
INTER_POLL_TIME, counted in the host's polls (R263, R265, log 15). -/
structure PollParams where
  cmd : BitVec 3
  deadline : BitVec deadlineW
  settleTime : Nat
  interPollTime : Nat
  deriving DecidableEq, Repr

/-- The host's own state: its phase, the polls it has waited in it, whether DECODE.AUTO has been issued, and whether
it has stopped the session (R266). -/
structure PollState where
  phase : PollPhase
  waited : Nat
  decodeIssued : Bool
  stopped : Bool
  deriving DecidableEq, Repr

/-- The host before its first exchange. -/
def PollState.start : PollState := ⟨.idle, 0, false, false⟩

/-- The collection part of the outcome Decoded: DONE_CAUSE = FULL, RXLEN = 10 and FRAME_VALID = 1 (R264). -/
def State.validatedFrame (s : State) : Bool :=
  decide (s.doneCause = .full) && decide (s.rxlen.toNat = respFrameLen) && s.frameValid

/-- The COLLECT of an exchange: `COLLECT CATALOG[c].expId, 10, D` (R263). -/
def pollCollect (p : PollParams) (s : State) : Option Instr :=
  (s.config.catalog[p.cmd.toNat]?).map fun e => .collect e.expId (BitVec.ofNat 4 respFrameLen) p.deadline

/-- One poll of the host: the operation it issues now, if any, and its next state (R263 to R266). DESIGN CHOICE (log 15),
where R266 says only that ERR = BUSY means the host broke R255: an ENCODE that left another error than UNKNOWN_CMD makes
the exchange Failed, with no COLLECT issued; ERR is not read after COLLECT and DECODE.AUTO, whose exchange is judged by
R264's registers alone; and a command that names no catalog entry stops the session even when its ENCODE raised BUSY. -/
def pollStep (p : PollParams) (h : PollState) (s : State) : Option Instr × PollState :=
  if h.stopped then (none, h)
  else
    match h.phase with
    | .idle => (some (.encode p.cmd), { h with phase := .awaitingSettle, waited := 0, decodeIssued := false })
    | .awaitingSettle =>
        if s.err = .unknownCmd then (none, { h with stopped := true })
        else
          match pollCollect p s with
          | none => (none, { h with stopped := true })
          | some collect =>
              if s.err ≠ .ok then (none, { h with phase := .failed, waited := 0 })
              else if s.txBusy then (none, h)
              else if h.waited < p.settleTime then (none, { h with waited := h.waited + 1 })
              else (some collect, { h with phase := .readingFrame, waited := 0 })
    | .readingFrame =>
        if s.rxBusy then (none, h)
        else if h.decodeIssued then
          (none, { h with phase := if s.resKind = .none then .failed else .decoded, waited := 0 })
        else if s.validatedFrame then (some .decodeAuto, { h with decodeIssued := true })
        else (none, { h with phase := .failed, waited := 0 })
    | .decoded =>
        if h.waited < p.interPollTime then (none, { h with waited := h.waited + 1 })
        else (none, { h with phase := .idle, waited := 0 })
    | .failed =>
        if h.waited < p.interPollTime then (none, { h with waited := h.waited + 1 })
        else (none, { h with phase := .idle, waited := 0 })

/-- The host issues an operation: its word is the block's next event (R101). -/
def State.issueNext (i : Option Instr) (s : State) : State :=
  match i with
  | none => s
  | some i => { s with sched := .op (encode i) :: s.sched }

end Sys2Proof.Machine
end

