-- ==== Sys2Proof/Safety.lean ====
section
/-! DEFINITION. What holds of every reachable state (R35), what the result registers mean (R32, R190), and what a run
is, in the terms the statements use. -/

namespace Sys2Proof.Machine

/-- The invariants of R35, (a) to (i), and two facts about DONE_CAUSE that R26 and R162 give. Clause (h) is in the type
of LASTCMD. -/
structure State.Inv (s : State) : Prop where
  /-- R35 (a), while a collection runs. -/
  busy_rxlen_le_target : s.rxBusy = true → s.rxlen.toNat ≤ s.target.toNat
  /-- R35 (a): TARGET <= 10. -/
  target_le_cap : s.target.toNat ≤ bufCap
  /-- R35 (a): RXLEN <= 10 always. -/
  rxlen_le_cap : s.rxlen.toNat ≤ bufCap
  /-- R35 (b). -/
  unused_zero : ∀ i : Fin bufCap, s.rxlen.toNat ≤ i.val → s.rxbuf[i] = padByte
  /-- R35 (c). -/
  busy_not_full : s.rxBusy = true → s.rxlen.toNat < s.target.toNat
  /-- R35 (c). -/
  busy_not_expired : s.rxBusy = true → s.elapsed.toNat < s.deadline.toNat
  /-- R35 (d). -/
  synced : 2 ≤ s.rxlen.toNat → s.rxbuf[0] = headSentinel ∧ s.rxbuf[1] = s.expid
  /-- R35 (e). -/
  full_means_target : s.rxBusy = false → s.doneCause = .full → s.rxlen = s.target
  /-- R35 (f). -/
  elapsed_le_deadline : s.elapsed.toNat ≤ s.deadline.toNat
  /-- R35 (g). -/
  txptr_le_len : s.txptr.toNat ≤ cmdFrameLen
  /-- R35 (i). -/
  busy_not_sending : s.rxBusy = true → s.txBusy = false
  /-- R26: no collection has ended since the one that runs was accepted. -/
  busy_no_cause : s.rxBusy = true → s.doneCause = .none
  /-- R26, R162: a collection the deadline ended is short and has used its ticks. -/
  deadline_means_short :
    s.doneCause = .deadline → s.rxlen.toNat < s.target.toNat ∧ s.elapsed = s.deadline

/-- The result registers hold one decode's output: a field is 0 unless RES_KIND names its decoder, and a result and a
failing reason exclude each other (R32, R190, R191, U16). -/
structure State.ResultsCoherent (s : State) : Prop where
  fail_or_result : s.resKind = .none ∨ s.resFail = .none
  mode_only : s.resKind ≠ .mode → s.mode = .active
  fw_only : s.resKind ≠ .fw → s.fwDay = 0 ∧ s.fwMonth = 0 ∧ s.fwYear = 0
  data_only : s.resKind ≠ .data → s.pm25Raw = 0 ∧ s.pm10Raw = 0

/-- `n` steps of the machine, stopping at the first fault or refusal. -/
def run (n : Nat) (s : State) : Host.Outcome State Fault Refusal := Host.Core.run Sys2Proof.core n s

/-- A run is safe when it stops at no fault and no refusal. -/
def SafeRun (n : Nat) (s : State) : Prop := ∃ t, run n s = .next t

/-- Two states whose reader state is the same: everything COLLECT, RX and TICK read or write (R22). -/
structure State.SameReader (s t : State) : Prop where
  rxbuf : s.rxbuf = t.rxbuf
  rxlen : s.rxlen = t.rxlen
  target : s.target = t.target
  expid : s.expid = t.expid
  deadline : s.deadline = t.deadline
  elapsed : s.elapsed = t.elapsed
  rxBusy : s.rxBusy = t.rxBusy
  doneCause : s.doneCause = t.doneCause
  resyncCnt : s.resyncCnt = t.resyncCnt

/-- Two states whose transmitter state is the same: everything ENCODE and TX write of the block but ERR (R22). -/
structure State.SameTransmitter (s t : State) : Prop where
  txbuf : s.txbuf = t.txbuf
  txptr : s.txptr = t.txptr
  lastcmd : s.lastcmd = t.lastcmd
  lastcmdValid : s.lastcmdValid = t.lastcmdValid

/-- Two states whose result registers are the same (R32). -/
structure State.SameResults (s t : State) : Prop where
  resKind : s.resKind = t.resKind
  resFail : s.resFail = t.resFail
  mode : s.mode = t.mode
  fwDay : s.fwDay = t.fwDay
  fwMonth : s.fwMonth = t.fwMonth
  fwYear : s.fwYear = t.fwYear
  pm25Raw : s.pm25Raw = t.pm25Raw
  pm10Raw : s.pm10Raw = t.pm10Raw

/-- Two states whose surroundings are the same: the bytes on both lines and the schedule (R36). -/
structure State.SameSurroundings (s t : State) : Prop where
  rxLine : s.rxLine = t.rxLine
  txLine : s.txLine = t.txLine
  sched : s.sched = t.sched

end Sys2Proof.Machine
end

