-- ==== Sys2Proof/Certificates/Slice0/Obligations.lean ====
section
/-! DEFINITION. The statements for the provers: encodings, the operations and events of the block, its registers, frames,
invariants and whole-machine rules. They hold for every configuration (a field of State), so for every catalog. -/

open Sys2Proof Sys2Proof.Machine

/-! ### Encodings and the issue of an operation -/

/-- Decode and encode agree: every operation, with every operand value its fields admit, is read back from its word
(30_encoding.md sections 2 and 3). -/
def Obligations.DecodeOfEncodeIsTheOperation : Prop := ∀ i : Instr, decode (encode i) = .ok i

/-- Every legal word has one meaning, so encoding what was decoded gives the word back (30_encoding.md section 3). -/
def Obligations.EncodeOfDecodeIsTheWord : Prop := ∀ (w : Word) (i : Instr), decode w = .ok i → encode i = w

/-- The opcode map of R89: its rows, that at most one row matches any word, and that the decoder picks the row that
matches. -/
def Obligations.OpcodeMapSelectsTheDecodedForm : Prop :=
  opcodeMap.map (fun r => (r.mnemonic, r.pattern, r.mask)) =
      [("NOP", 0x00000000, 0xFFFFFFFF), ("ENCODE", 0x00000001, 0xFFFFFF8F), ("COLLECT", 0x00000002, 0x000000FF),
       ("DECODE.AUTO", 0x00000003, 0xFFFFFFFF), ("DECODE.FW", 0x00000013, 0xFFFFFFFF),
       ("DECODE.MODE", 0x00000023, 0xFFFFFFFF), ("DECODE.DATA", 0x00000033, 0xFFFFFFFF),
       ("RDREG", 0x00000004, 0xFFFFFF0F)] ∧
    (∀ (w : Word), ∀ r ∈ opcodeMap, ∀ r' ∈ opcodeMap,
      w &&& r.mask = r.pattern → w &&& r'.mask = r'.pattern → r = r') ∧
    (∀ (w : Word) (i : Instr), decode w = .ok i → i.row ∈ opcodeMap ∧ w &&& i.row.mask = i.row.pattern) ∧
    (∀ (w : Word), ∀ r ∈ opcodeMap, w &&& r.mask = r.pattern → ∃ i, decode w = .ok i ∧ i.row = r) ∧
    (∀ (w : Word), 5 ≤ (w.extractLsb' 0 4).toNat → ∃ e, decode w = .error e)

/-- The operands of a decoded word are unsigned numbers taken straight from its bits (R88): nothing is sign-extended,
scaled or shifted. -/
def Obligations.OperandsAreTheWordsBits : Prop :=
  (∀ (w : Word) (cmd : BitVec 3), decode w = .ok (.encode cmd) → cmd.toNat = w.toNat / 2 ^ 4 % 2 ^ 3) ∧
  (∀ (w : Word) (expid : Byte) (target : BitVec 4) (deadline : BitVec 12),
    decode w = .ok (.collect expid target deadline) →
      expid.toNat = w.toNat / 2 ^ 8 % 2 ^ 8 ∧ target.toNat = w.toNat / 2 ^ 16 % 2 ^ 4 ∧
        deadline.toNat = w.toNat / 2 ^ 20 % 2 ^ 12) ∧
  (∀ (w : Word) (r : Reg), decode w = .ok (.rdreg r) → r.number.toNat = w.toNat / 2 ^ 4 % 2 ^ 4)

/-- Illegal words (R91, R106): OP 0x5..0xF, or a legal OP with a nonzero reserved bit, raises ILLEGAL_OP whatever the
busy flags are and changes nothing else; every other word has a form. -/
def Obligations.IllegalWordsRaiseIllegalOp : Prop :=
  (∀ (w : Word) (s : State),
    (5 ≤ (w.extractLsb' 0 4).toNat ∨
      (w.extractLsb' 0 4 = 0x0 ∧ w.extractLsb' 4 28 ≠ 0) ∨ (w.extractLsb' 0 4 = 0x1 ∧ w.extractLsb' 7 25 ≠ 0) ∨
      (w.extractLsb' 0 4 = 0x2 ∧ w.extractLsb' 4 4 ≠ 0) ∨ (w.extractLsb' 0 4 = 0x3 ∧ w.extractLsb' 6 26 ≠ 0) ∨
      (w.extractLsb' 0 4 = 0x4 ∧ w.extractLsb' 8 24 ≠ 0)) →
    opEvent w s = .next { s with err := .illegalOp }) ∧
  (∀ w : Word,
    (w.extractLsb' 0 4 = 0x0 ∧ w.extractLsb' 4 28 = 0) ∨ (w.extractLsb' 0 4 = 0x1 ∧ w.extractLsb' 7 25 = 0) ∨
      (w.extractLsb' 0 4 = 0x2 ∧ w.extractLsb' 4 4 = 0) ∨ (w.extractLsb' 0 4 = 0x3 ∧ w.extractLsb' 6 26 = 0) ∨
      (w.extractLsb' 0 4 = 0x4 ∧ w.extractLsb' 8 24 = 0) →
    ∃ i, decode w = .ok i) ∧
  (∀ s : State, opEvent 0x00000005 s = .next { s with err := .illegalOp } ∧
    opEvent 0x00000181 s = .next { s with err := .illegalOp })

/-- A few words written out from the formats (the examples of R93, R104, R192, R193, R200), as a sanity check. -/
def Obligations.SpecExampleWordsDecode : Prop :=
  decode 0x00000000 = .ok .nop ∧ decode 0x00000031 = .ok (.encode 3) ∧
    decode 0x3E8AC002 = .ok (.collect 0xC0 10 1000) ∧ decode 0x00000003 = .ok .decodeAuto ∧
    decode 0x00000013 = .ok .decodeFw ∧ decode 0x00000023 = .ok .decodeMode ∧
    decode 0x00000033 = .ok .decodeData ∧ decode 0x000000A4 = .ok (.rdreg .txinfo) ∧
    decode 0x00000084 = .ok (.rdreg .pm)

/-- A step runs the decoded operation (R13, R100): with OP(w) next, the event is taken off the schedule and the block
performs the form w decodes to, or raises ILLEGAL_OP; a word issued by withFetchWord is the one the next step runs. The
schedule is the model's form of the environment's choice (logs 1 and 5). -/
def Obligations.StepRunsTheDecodedOperation : Prop :=
  ∀ (s : State) (w : Word) (rest : List Event), s.config.wf = true → s.sched = .op w :: rest →
    (∀ i, decode w = .ok i → step s = exec i { s with sched := rest }) ∧
    (∀ e, decode w = .error e → step s = .next { s with sched := rest, err := .illegalOp }) ∧
    step (s.withFetchWord 32 w.toNat) = opEvent w s ∧ decodeTableWord 32 w.toNat = (decode w).toOption

/-- A step with another event next applies that event and takes it off the schedule; with nothing scheduled, nothing
happens (R13, log 1). -/
def Obligations.StepAppliesTheScheduledEvent : Prop :=
  ∀ s : State, s.config.wf = true →
    (∀ rest, s.sched = .rx :: rest → step s = .next (State.rxEvent { s with sched := rest })) ∧
    (∀ rest, s.sched = .tx :: rest → step s = .next (State.txEvent { s with sched := rest })) ∧
    (∀ rest, s.sched = .tick :: rest → step s = .next (State.tickEvent { s with sched := rest })) ∧
    (∀ rest, s.sched = .reset :: rest → step s = .next (State.resetEvent { s with sched := rest })) ∧
    (∀ rest, s.sched = .idle :: rest → step s = .next { s with sched := rest }) ∧
    (s.sched = [] → step s = .next s)

/-- The busy matrix (R103): an operation in a BUSY cell raises BUSY and does nothing else, and no operation outside
those cells raises it. -/
def Obligations.BusyMatrixIsExact : Prop :=
  ∀ (i : Instr) (s : State),
    ((match i with
      | .nop => False
      | .rdreg _ => False
      | .encode _ => s.rxBusy = true ∨ s.txptr.toNat < 19
      | .collect _ _ _ => s.rxBusy = true ∨ s.txptr.toNat < 19
      | .decodeAuto => s.rxBusy = true
      | .decodeFw => s.rxBusy = true
      | .decodeMode => s.rxBusy = true
      | .decodeData => s.rxBusy = true) ∧ exec i s = .next { s with err := .busy }) ∨
    (¬ (match i with
      | .nop => False
      | .rdreg _ => False
      | .encode _ => s.rxBusy = true ∨ s.txptr.toNat < 19
      | .collect _ _ _ => s.rxBusy = true ∨ s.txptr.toNat < 19
      | .decodeAuto => s.rxBusy = true
      | .decodeFw => s.rxBusy = true
      | .decodeMode => s.rxBusy = true
      | .decodeData => s.rxBusy = true) ∧
      ∃ t, exec i s = .next t ∧ (t.err = .busy → s.err = .busy ∧ (i = .nop ∨ ∃ r, i = .rdreg r)))

/-- Errors are precise (R220): every word goes on to a next state; one that raises changes nothing but ERR; NOP and RDREG
raise nothing; RX, TX and TICK do the same whatever ERR holds, and with IDLE leave it alone; RESET clears it. -/
def Obligations.ErrorsArePrecise : Prop :=
  (∀ (w : Word) (s : State), ∃ t, opEvent w s = .next t) ∧
  (∀ (w : Word) (s t : State), opEvent w s = .next t → (∀ i, decode w = .ok i → i ≠ .nop ∧ ∀ r, i ≠ .rdreg r) →
    t.err ≠ .ok → t = { s with err := t.err }) ∧
  (∀ (i : Instr) (s t : State), exec i s = .next t → (i = .nop ∨ ∃ r, i = .rdreg r) → t.err = s.err) ∧
  (∀ (e : Event) (s t : State) (c : ErrCode), e = .rx ∨ e = .tx ∨ e = .tick → applyEvent e s = .next t →
    applyEvent e { s with err := c } = .next { t with err := c }) ∧
  (∀ s t : State, (applyEvent .rx s = .next t ∨ applyEvent .tx s = .next t ∨ applyEvent .tick s = .next t ∨
    applyEvent .idle s = .next t) → t.err = s.err) ∧
  (∀ s t : State, applyEvent .reset s = .next t → t.err = .ok)

/-- The code ERR holds after any word, in the order ILLEGAL_OP, BUSY, the form's operand error (R222, which the spec
derives from R100): NOP and a legal RDREG keep it, every other accepted operation writes OK. -/
def Obligations.ErrFollowsThePrecedence : Prop :=
  ∀ (w : Word) (s : State), ∃ t, opEvent w s = .next t ∧
    t.err =
      (match decode w with
        | .error _ => ErrCode.illegalOp
        | .ok .nop => s.err
        | .ok (.rdreg _) => s.err
        | .ok (.encode cmd) =>
            if s.rxBusy = true ∨ s.txptr.toNat < 19 then .busy else if 5 ≤ cmd.toNat then .unknownCmd else .ok
        | .ok (.collect _ target _) =>
            if s.rxBusy = true ∨ s.txptr.toNat < 19 then .busy else if 11 ≤ target.toNat then .badTarget else .ok
        | .ok .decodeAuto => if s.rxBusy = true then .busy else if s.lastcmdValid = false then .noCmd else .ok
        | .ok .decodeFw => if s.rxBusy = true then .busy else .ok
        | .ok .decodeMode => if s.rxBusy = true then .busy else .ok
        | .ok .decodeData => if s.rxBusy = true then .busy else .ok)

/-! ### NOP, RDREG and the register map -/

/-- NOP (R105): the word 0 changes nothing, in every state; a word with OP 0 and another bit set is ILLEGAL_OP. -/
def Obligations.NopChangesNothing : Prop :=
  (∀ s : State, exec .nop s = .next s) ∧
  (∀ (w : Word) (s : State), w.extractLsb' 0 4 = 0x0 →
    (w.extractLsb' 4 28 = 0 → opEvent w s = .next s) ∧
      (w.extractLsb' 4 28 ≠ 0 → opEvent w s = .next { s with err := .illegalOp }))

/-- RDREG (R104): RDATA takes the register's value of the state before, in every state, and nothing else changes. -/
def Obligations.RdregReadsTheRegister : Prop :=
  (∀ (r : Reg) (s : State), exec (.rdreg r) s = .next { s with rdata := s.reg r }) ∧
  (∀ (w : Word) (s : State), w.extractLsb' 0 4 = 0x4 →
    (w.extractLsb' 8 24 = 0 → ∃ r : Reg, r.number = w.extractLsb' 4 4 ∧ opEvent w s = .next { s with rdata := s.reg r }) ∧
      (w.extractLsb' 8 24 ≠ 0 → opEvent w s = .next { s with err := .illegalOp })) ∧
  opEvent 0x000000A4 State.reset = .next { State.reset with rdata := 0x00000013 }

/-- STATUS (R41): its fields, the values that never occur, its zero bits and its reset value. -/
def Obligations.StatusRegisterFields : Prop :=
  (∀ s : State,
    (s.reg .status).getLsbD 0 = s.rxBusy ∧
    (s.reg .status).getLsbD 1 = decide (s.txptr.toNat < 19) ∧
    ((s.reg .status).extractLsb' 2 2).toNat = (match s.doneCause with | .none => 0 | .full => 1 | .deadline => 2) ∧
    ((s.reg .status).extractLsb' 4 4).toNat =
      (match s.err with | .ok => 0 | .illegalOp => 1 | .busy => 2 | .unknownCmd => 3 | .badTarget => 4 | .noCmd => 5) ∧
    (s.reg .status).getLsbD 8 = s.lastcmdValid ∧
    ((s.reg .status).extractLsb' 9 3).toNat = s.lastcmd.val ∧
    ((s.reg .status).extractLsb' 9 3).toNat ≤ 4 ∧
    (s.reg .status).extractLsb' 12 20 = 0) ∧
  State.reset.reg .status = 0x00000000

/-- RXINFO, TIMER and the receive lanes (R42 to R46): fields, zero bits and reset values. -/
def Obligations.ReaderRegisterFields : Prop :=
  (∀ s : State,
    (s.reg .rxinfo).extractLsb' 0 4 = s.rxlen ∧ (s.reg .rxinfo).extractLsb' 4 4 = s.target ∧
    (s.reg .rxinfo).extractLsb' 8 8 = s.expid ∧ (s.reg .rxinfo).extractLsb' 16 16 = s.resyncCnt ∧
    (s.reg .timer).extractLsb' 0 12 = s.deadline ∧ (s.reg .timer).extractLsb' 12 4 = 0 ∧
    (s.reg .timer).extractLsb' 16 12 = s.elapsed ∧ (s.reg .timer).extractLsb' 28 4 = 0 ∧
    (s.reg .rxb0).extractLsb' 0 8 = s.rxbuf[0] ∧ (s.reg .rxb0).extractLsb' 8 8 = s.rxbuf[1] ∧
    (s.reg .rxb0).extractLsb' 16 8 = s.rxbuf[2] ∧ (s.reg .rxb0).extractLsb' 24 8 = s.rxbuf[3] ∧
    (s.reg .rxb1).extractLsb' 0 8 = s.rxbuf[4] ∧ (s.reg .rxb1).extractLsb' 8 8 = s.rxbuf[5] ∧
    (s.reg .rxb1).extractLsb' 16 8 = s.rxbuf[6] ∧ (s.reg .rxb1).extractLsb' 24 8 = s.rxbuf[7] ∧
    (s.reg .rxb2).extractLsb' 0 8 = s.rxbuf[8] ∧ (s.reg .rxb2).extractLsb' 8 8 = s.rxbuf[9] ∧
    (s.reg .rxb2).extractLsb' 16 16 = 0) ∧
  (∀ r ∈ [Reg.rxinfo, .timer, .rxb0, .rxb1, .rxb2], State.reset.reg r = 0x00000000)

/-- RESULT, FWDATE and PM (R47 to R49): fields, zero bits and reset values. -/
def Obligations.ResultRegisterFields : Prop :=
  (∀ s : State,
    ((s.reg .result).extractLsb' 0 2).toNat = (match s.resKind with | .none => 0 | .fw => 1 | .mode => 2 | .data => 3) ∧
    ((s.reg .result).extractLsb' 2 3).toNat =
      (match s.resFail with | .none => 0 | .len => 1 | .head => 2 | .tail => 3 | .id => 4) ∧
    ((s.reg .result).extractLsb' 5 2).toNat = (match s.mode with | .active => 0 | .query => 1 | .unknown => 2) ∧
    (s.reg .result).extractLsb' 7 25 = 0 ∧
    (s.reg .fwdate).extractLsb' 0 8 = s.fwDay ∧ (s.reg .fwdate).extractLsb' 8 8 = s.fwMonth ∧
    (s.reg .fwdate).extractLsb' 16 8 = s.fwYear ∧ (s.reg .fwdate).extractLsb' 24 8 = 0 ∧
    (s.reg .pm).extractLsb' 0 16 = s.pm25Raw ∧ (s.reg .pm).extractLsb' 16 16 = s.pm10Raw) ∧
  (∀ r ∈ [Reg.result, .fwdate, .pm], State.reset.reg r = 0x00000000)

/-- The transmit lanes TXB0 to TXB4 (R52 to R56): each byte of TXBUF in its lane, the zero byte and the reset values. -/
def Obligations.TransmitLanes : Prop :=
  (∀ s : State,
    (s.reg .txb0).extractLsb' 0 8 = s.txbuf[0] ∧ (s.reg .txb0).extractLsb' 8 8 = s.txbuf[1] ∧
    (s.reg .txb0).extractLsb' 16 8 = s.txbuf[2] ∧ (s.reg .txb0).extractLsb' 24 8 = s.txbuf[3] ∧
    (s.reg .txb1).extractLsb' 0 8 = s.txbuf[4] ∧ (s.reg .txb1).extractLsb' 8 8 = s.txbuf[5] ∧
    (s.reg .txb1).extractLsb' 16 8 = s.txbuf[6] ∧ (s.reg .txb1).extractLsb' 24 8 = s.txbuf[7] ∧
    (s.reg .txb2).extractLsb' 0 8 = s.txbuf[8] ∧ (s.reg .txb2).extractLsb' 8 8 = s.txbuf[9] ∧
    (s.reg .txb2).extractLsb' 16 8 = s.txbuf[10] ∧ (s.reg .txb2).extractLsb' 24 8 = s.txbuf[11] ∧
    (s.reg .txb3).extractLsb' 0 8 = s.txbuf[12] ∧ (s.reg .txb3).extractLsb' 8 8 = s.txbuf[13] ∧
    (s.reg .txb3).extractLsb' 16 8 = s.txbuf[14] ∧ (s.reg .txb3).extractLsb' 24 8 = s.txbuf[15] ∧
    (s.reg .txb4).extractLsb' 0 8 = s.txbuf[16] ∧ (s.reg .txb4).extractLsb' 8 8 = s.txbuf[17] ∧
    (s.reg .txb4).extractLsb' 16 8 = s.txbuf[18] ∧
    (s.reg .txb4).extractLsb' 24 8 = 0) ∧
  (∀ r ∈ [Reg.txb0, .txb1, .txb2, .txb3, .txb4], State.reset.reg r = 0x00000000)

/-- VSTAT shows the validator's predicates over the current state (R140 to R143 and the layout of R50). The range of
SUM_OK is the spec's general knowledge (R146, G4, log 12). -/
def Obligations.VstatShowsThePredicates : Prop :=
  ∀ s : State,
    ((s.reg .vstat).getLsbD 0 = true ↔ s.rxlen.toNat = 10) ∧
    ((s.reg .vstat).getLsbD 1 = true ↔ 1 ≤ s.rxlen.toNat ∧ s.rxbuf[0] = 0xAA) ∧
    ((s.reg .vstat).getLsbD 2 = true ↔ 2 ≤ s.rxlen.toNat ∧ s.rxbuf[1] = s.expid) ∧
    ((s.reg .vstat).getLsbD 3 = true ↔ s.rxlen.toNat = 10 ∧ s.rxbuf[9] = 0xAB) ∧
    ((s.reg .vstat).getLsbD 4 = true ↔
      s.rxlen.toNat = 10 ∧ s.rxbuf[0] = 0xAA ∧ s.rxbuf[1] = s.expid ∧ s.rxbuf[9] = 0xAB) ∧
    ((s.reg .vstat).getLsbD 5 = true ↔
      s.rxlen.toNat = 10 ∧
        s.rxbuf[8].toNat = (s.rxbuf[2].toNat + s.rxbuf[3].toNat + s.rxbuf[4].toNat + s.rxbuf[5].toNat +
          s.rxbuf[6].toNat + s.rxbuf[7].toNat) % 256) ∧
    (s.reg .vstat).extractLsb' 6 26 = 0

/-- TXINFO shows TXPTR, LAST_EXPID and CMD_SUM_OK (R34, R51; the range of CMD_SUM_OK is the spec's general knowledge,
R148, G5, log 12). -/
def Obligations.TxinfoShowsTheTransmitter : Prop :=
  ∀ s : State,
    (s.reg .txinfo).extractLsb' 0 5 = s.txptr ∧
    ((s.reg .txinfo).getLsbD 5 = true ↔
      s.lastcmdValid = true ∧ s.txbuf[17].toNat = ((s.txbuf.toList.drop 2).take 15).foldl (fun n b => n + b.toNat) 0 % 256) ∧
    (s.reg .txinfo).extractLsb' 6 2 = 0 ∧
    (s.reg .txinfo).extractLsb' 8 8 = (if s.lastcmdValid = true then s.config.catalog[s.lastcmd].expId else 0x00) ∧
    (s.reg .txinfo).extractLsb' 16 16 = 0

/-! ### The encoder and the transmit line -/

/-- ENCODE (R122): the whole next state, for every CMD and every word with OP 1. -/
def Obligations.EncodeStartsTheFrame : Prop :=
  (∀ (cmd : BitVec 3) (s : State), s.rxBusy = false → 19 ≤ s.txptr.toNat → ∀ h : cmd.toNat < 5,
    exec (.encode cmd) s =
      .next { s with txbuf := frame s.config.catalog[cmd.toNat], txptr := 0, lastcmd := ⟨cmd.toNat, h⟩,
                     lastcmdValid := true, err := .ok }) ∧
  (∀ (cmd : BitVec 3) (s : State), s.rxBusy = false → 19 ≤ s.txptr.toNat → 5 ≤ cmd.toNat →
    exec (.encode cmd) s = .next { s with err := .unknownCmd }) ∧
  (∀ (cmd : BitVec 3) (s : State), s.rxBusy = true ∨ s.txptr.toNat < 19 →
    exec (.encode cmd) s = .next { s with err := .busy }) ∧
  (∀ (w : Word) (s : State), w.extractLsb' 0 4 = 0x1 →
    (w.extractLsb' 7 25 = 0 → opEvent w s = exec (.encode (w.extractLsb' 4 3)) s) ∧
      (w.extractLsb' 7 25 ≠ 0 → opEvent w s = .next { s with err := .illegalOp }))

/-- The command frame (R80, R123): every byte of the 19, for every catalog entry; and byte 0 is 0xAA for every entry of
a well-formed catalog. The checksum byte is the tabulated one, never computed (R125). -/
def Obligations.CommandFrameLayout : Prop :=
  (∀ e : CatalogEntry,
    (frame e).toList = e.header.toList ++ List.replicate 10 0x00 ++ [0xFF, 0xFF, e.cksum, 0xAB] ∧
    (frame e).toList.length = 19 ∧ (frame e)[0] = e.header[0] ∧ (frame e)[5] = 0x00 ∧ (frame e)[14] = 0x00 ∧
    (frame e)[15] = 0xFF ∧ (frame e)[16] = 0xFF ∧ (frame e)[17] = e.cksum ∧ (frame e)[18] = 0xAB) ∧
  (∀ (c : Config) (k : Nat) (h : k < 5), c.wf = true → (frame c.catalog[k])[0] = 0xAA)

/-- TX (R127): an enabled TX hands TXBUF[TXPTR] to the line and advances TXPTR, and nothing else changes; and no frame is
being sent while a collection runs. The record of what the line got is the model's choice (log 3), and that a scheduled TX
with nothing to send changes nothing is the model's reading of R13 (DEDUCED, log 4). -/
def Obligations.TxSendsTheNextByte : Prop :=
  (∀ (s : State) (h : s.txptr.toNat < 19),
    applyEvent .tx s = .next { s with txptr := s.txptr + 1, txLine := s.txLine ++ [s.txbuf[s.txptr.toNat]] } ∧
      (s.txptr + 1).toNat = s.txptr.toNat + 1) ∧
  (∀ s : State, 19 ≤ s.txptr.toNat → applyEvent .tx s = .next s) ∧
  (∀ s : State, s.Inv → s.rxBusy = true → 19 ≤ s.txptr.toNat)

/-- A frame is sent whole and in order (R60, R128): over any run without RESET, whatever else happens, the line gets
exactly the next bytes of the frame, one for each TX, for as many TX as bytes were left. -/
def Obligations.FramesAreSentWholeAndInOrder : Prop :=
  ∀ (s : State) (n : Nat), s.config.wf = true → s.Inv → Event.reset ∉ s.sched.take n →
    (s.sched.take n).count .tx ≤ 19 - s.txptr.toNat →
    ∃ t, run n s = .next t ∧
      t.txLine = s.txLine ++ (s.txbuf.toList.drop s.txptr.toNat).take ((s.sched.take n).count .tx)

/-! ### The reader -/

/-- COLLECT (R160 to R163): the whole next state, for every operand and every word with OP 2. -/
def Obligations.CollectStartsTheReader : Prop :=
  (∀ (expid : Byte) (target : BitVec 4) (deadline : BitVec 12) (s : State), s.rxBusy = false → 19 ≤ s.txptr.toNat →
    (11 ≤ target.toNat → exec (.collect expid target deadline) s = .next { s with err := .badTarget }) ∧
    (target.toNat ≤ 10 →
      exec (.collect expid target deadline) s =
        .next { s with
          rxbuf := Vector.replicate 10 0x00, rxlen := 0, expid := expid, target := target, deadline := deadline,
          elapsed := 0, resyncCnt := 0, err := .ok,
          rxBusy := decide (0 < target.toNat ∧ 0 < deadline.toNat),
          doneCause := if target.toNat = 0 then .full else if deadline.toNat = 0 then .deadline else .none })) ∧
  (∀ (expid : Byte) (target : BitVec 4) (deadline : BitVec 12) (s : State), s.rxBusy = true ∨ s.txptr.toNat < 19 →
    exec (.collect expid target deadline) s = .next { s with err := .busy }) ∧
  (∀ (w : Word) (s : State), w.extractLsb' 0 4 = 0x2 →
    (w.extractLsb' 4 4 = 0 →
      opEvent w s = exec (.collect (w.extractLsb' 8 8) (w.extractLsb' 16 4) (w.extractLsb' 20 12)) s) ∧
    (w.extractLsb' 4 4 ≠ 0 → opEvent w s = .next { s with err := .illegalOp }))

/-- end_check (R162): a full buffer ends the collection first, then the deadline, and otherwise nothing changes; and it
closes every accepted COLLECT, every accepted byte and every counted tick. -/
def Obligations.EndCheckPrefersFull : Prop :=
  (∀ s : State,
    (s.rxBusy = true → s.target.toNat ≤ s.rxlen.toNat →
      s.endCheck = { s with rxBusy := false, doneCause := .full }) ∧
    (s.rxBusy = true → s.rxlen.toNat < s.target.toNat → s.deadline.toNat ≤ s.elapsed.toNat →
      s.endCheck = { s with rxBusy := false, doneCause := .deadline }) ∧
    (s.rxBusy = true → s.rxlen.toNat < s.target.toNat → s.elapsed.toNat < s.deadline.toNat → s.endCheck = s) ∧
    (s.rxBusy = false → s.endCheck = s)) ∧
  (∀ (expid : Byte) (target : BitVec 4) (deadline : BitVec 12) (s : State), s.rxBusy = false → 19 ≤ s.txptr.toNat →
    target.toNat ≤ 10 → ∃ u : State, exec (.collect expid target deadline) s = .next u.endCheck ∧ u.rxBusy = true ∧
      u.rxlen = 0 ∧ u.elapsed = 0 ∧ u.target = target ∧ u.deadline = deadline) ∧
  (∀ (s : State) (b : Byte) (rest : List Byte), s.rxBusy = true → s.rxLine = b :: rest →
    applyEvent .rx s = .next (State.appendByte b { s with rxLine := rest }).resync.endCheck) ∧
  (∀ s : State, s.rxBusy = true → applyEvent .tick s = .next (State.endCheck { s with elapsed := s.elapsed + 1 }))

/-- RX (R165, R166), in a state that meets the invariants of R35: a second byte that fails the check discards both,
every other byte is kept, and the byte that reaches TARGET ends the collection FULL. -/
def Obligations.RxAcceptsOneByte : Prop :=
  ∀ (s : State) (b : Byte) (rest : List Byte), s.Inv → s.rxBusy = true → s.rxLine = b :: rest →
    (s.rxlen.toNat = 1 ∧ ¬ (s.rxbuf[0] = 0xAA ∧ b = s.expid) →
      applyEvent .rx s =
        .next { s with rxLine := rest, rxbuf := Vector.replicate 10 0x00, rxlen := 0,
                       resyncCnt := BitVec.ofNat 16 (min (s.resyncCnt.toNat + 1) 0xFFFF) }) ∧
    (¬ (s.rxlen.toNat = 1 ∧ ¬ (s.rxbuf[0] = 0xAA ∧ b = s.expid)) →
      ∀ h : s.rxlen.toNat < 10,
        (s.rxlen.toNat + 1 < s.target.toNat →
          applyEvent .rx s = .next { s with rxLine := rest, rxbuf := s.rxbuf.set s.rxlen.toNat b, rxlen := s.rxlen + 1 }) ∧
        (s.rxlen.toNat + 1 = s.target.toNat →
          applyEvent .rx s =
            .next { s with rxLine := rest, rxbuf := s.rxbuf.set s.rxlen.toNat b, rxlen := s.rxlen + 1,
                           rxBusy := false, doneCause := .full }))

/-- An offer the block is not ready for changes nothing, and the byte stays with the transport (R31, U20). -/
def Obligations.UntakenBytesStayWithTheTransport : Prop :=
  ∀ s : State, s.rxBusy = false ∨ s.rxLine = [] → applyEvent .rx s = .next s

/-- The check fails only at the second byte (the spec derives it, R167): with two or more bytes held, a byte is never
discarded. -/
def Obligations.SyncCheckFailsOnlyAtTheSecondByte : Prop :=
  ∀ (s t : State), s.Inv → s.rxBusy = true → 2 ≤ s.rxlen.toNat → s.rxLine ≠ [] → applyEvent .rx s = .next t →
    t.resyncCnt = s.resyncCnt ∧ t.rxlen.toNat = s.rxlen.toNat + 1 ∧ t.rxbuf[0] = s.rxbuf[0] ∧ t.rxbuf[1] = s.rxbuf[1]

/-- TICK (R168), in a state that meets the invariants of R35: it counts only while a collection runs, never passes
DEADLINE, and ends the collection when it reaches it. -/
def Obligations.TickCountsWhileCollecting : Prop :=
  (∀ s : State, s.rxBusy = false → applyEvent .tick s = .next s) ∧
  (∀ s : State, s.Inv → s.rxBusy = true →
    (s.elapsed + 1).toNat = s.elapsed.toNat + 1 ∧
    (s.elapsed.toNat + 1 < s.deadline.toNat → applyEvent .tick s = .next { s with elapsed := s.elapsed + 1 }) ∧
    (s.elapsed.toNat + 1 = s.deadline.toNat →
      applyEvent .tick s = .next { s with elapsed := s.elapsed + 1, rxBusy := false, doneCause := .deadline }))

/-- Only end_check and RESET end a collection (R171): no operation word, TX or IDLE touches the reader while it runs,
an RX or TICK that ends it found the buffer full or the deadline reached, and RESET ends it. -/
def Obligations.OnlyEndCheckAndResetEndACollection : Prop :=
  ∀ (s : State), s.rxBusy = true →
    (∀ (w : Word) (t : State), opEvent w s = .next t → s.SameReader t) ∧
    (∀ t, applyEvent .tx s = .next t → s.SameReader t) ∧
    (∀ t, applyEvent .idle s = .next t → s.SameReader t) ∧
    (∀ t, (applyEvent .rx s = .next t ∨ applyEvent .tick s = .next t) → t.rxBusy = false →
      (t.target.toNat ≤ t.rxlen.toNat ∧ t.doneCause = .full) ∨
        (t.deadline.toNat ≤ t.elapsed.toNat ∧ t.doneCause = .deadline)) ∧
    (∀ t, applyEvent .reset s = .next t → t.rxBusy = false)

/-- Never early (the spec derives it, R170): over any run without an operation or RESET, a collection that has ended
short has seen all the ticks that were left, and one that has ended otherwise is full. -/
def Obligations.CollectionNeverEndsEarly : Prop :=
  ∀ (s t : State) (n : Nat), s.config.wf = true → s.Inv → s.rxBusy = true →
    (∀ e ∈ s.sched.take n, e = .rx ∨ e = .tx ∨ e = .tick ∨ e = .idle) → run n s = .next t → t.rxBusy = false →
    (t.doneCause = .full ∧ t.rxlen = t.target) ∨
      (t.doneCause = .deadline ∧ t.rxlen.toNat < t.target.toNat ∧
        s.deadline.toNat - s.elapsed.toNat ≤ (s.sched.take n).count .tick)

/-- Termination (R175): whatever else happens, a collection has ended by the time as many ticks have come as were left
before its deadline. -/
def Obligations.CollectionsEndWithinTheirTicks : Prop :=
  ∀ (s : State) (n : Nat), s.config.wf = true → s.Inv → s.rxBusy = true →
    s.deadline.toNat - s.elapsed.toNat ≤ (s.sched.take n).count .tick →
    ∃ k t, k ≤ n ∧ run k s = .next t ∧ t.rxBusy = false

/-- Resynchronisation (the spec derives it, R173): a reader that expects id e on the stream 00 AA wrongId, nine more
bytes, then AA e and eight bytes collects that second frame, with six discards, when no byte pair from wrongId on is
(AA, e). -/
def Obligations.ResyncYieldsTheSecondFrame : Prop :=
  ∀ (s : State) (e wrongId : Byte) (nine eight rest : List Byte) (es : List Event),
    s.config.wf = true → s.Inv → s.rxBusy = true → s.rxlen = 0 → s.target.toNat = 10 → s.expid = e →
    s.resyncCnt = 0 → nine.length = 9 → eight.length = 8 →
    (∀ k, k < 5 → ¬ ((wrongId :: nine)[2 * k]? = some 0xAA ∧ (wrongId :: nine)[2 * k + 1]? = some e)) →
    s.rxLine = 0x00 :: 0xAA :: wrongId :: nine ++ 0xAA :: e :: eight ++ rest →
    s.sched = List.replicate 22 .rx ++ es →
    ∃ t, run 22 s = .next t ∧ t.rxbuf.toList = 0xAA :: e :: eight ∧ t.rxlen.toNat = 10 ∧ t.rxBusy = false ∧
      t.doneCause = .full ∧ t.resyncCnt.toNat = 6 ∧ t.rxLine = rest ∧ t.sched = es

/-- What a completed collection guarantees (the spec derives it, R151). -/
def Obligations.CompletedCollectionGuarantees : Prop :=
  ∀ s : State, s.Inv →
    (2 ≤ s.rxlen.toNat → s.headOk = true ∧ s.idOk = true) ∧
    (s.rxBusy = false → s.doneCause = .full → s.target.toNat = 10 →
      s.lenOk = true ∧ s.headOk = true ∧ s.idOk = true ∧ s.frameValid = s.tailOk) ∧
    (s.doneCause = .deadline → s.rxlen.toNat < s.target.toNat ∧ (s.target.toNat = 10 → s.lenOk = false))

/-- No earlier exchange affects how a later one is collected or decoded (the spec derives it, R59): two idle blocks of
one configuration, whatever else they hold, collect the same frame from the same line under the same events and decode
it alike. -/
def Obligations.EarlierExchangesDoNotMatter : Prop :=
  ∀ (s t : State) (expid : Byte) (target : BitVec 4) (deadline : BitVec 12) (es : List Event),
    s.config.wf = true → s.config = t.config → s.rxBusy = false → t.rxBusy = false → 19 ≤ s.txptr.toNat →
    19 ≤ t.txptr.toNat → target.toNat ≤ 10 → s.rxLine = t.rxLine → s.sched = es → t.sched = es →
    (∀ e ∈ es, e = .rx ∨ e = .tx ∨ e = .tick ∨ e = .idle) →
    ∃ s1 t1 s2 t2, exec (.collect expid target deadline) s = .next s1 ∧
      exec (.collect expid target deadline) t = .next t1 ∧ run es.length s1 = .next s2 ∧ run es.length t1 = .next t2 ∧
      s2.SameReader t2 ∧ s2.rxLine = t2.rxLine ∧
      (s2.rxBusy = false → ∀ d ∈ [Instr.decodeFw, .decodeMode, .decodeData],
        ∃ s3 t3, exec d s2 = .next s3 ∧ exec d t2 = .next t3 ∧ s3.SameResults t3)

/-! ### The decoder -/

/-- DECODE.FW (R192, R198): only the length is checked; the three bytes are copied raw. -/
def Obligations.DecodeFwReadsThreeBytes : Prop :=
  (∀ s : State, s.rxBusy = false → s.rxlen.toNat = 10 →
    exec .decodeFw s =
      .next { s with resKind := .fw, resFail := .none, mode := .active, fwDay := s.rxbuf[s.config.fwDayOff],
                     fwMonth := s.rxbuf[s.config.fwMonthOff], fwYear := s.rxbuf[s.config.fwYearOff],
                     pm25Raw := 0, pm10Raw := 0, err := .ok }) ∧
  (∀ s : State, s.rxBusy = false → s.rxlen.toNat ≠ 10 →
    exec .decodeFw s =
      .next { s with resKind := .none, resFail := .len, mode := .active, fwDay := 0, fwMonth := 0, fwYear := 0,
                     pm25Raw := 0, pm10Raw := 0, err := .ok }) ∧
  (∀ s : State, s.rxBusy = true → exec .decodeFw s = .next { s with err := .busy }) ∧
  (∀ s : State, opEvent 0x00000013 s = exec .decodeFw s) ∧
  (∀ (w : Word) (s : State), w.extractLsb' 0 4 = 0x3 → w.extractLsb' 6 26 ≠ 0 →
    opEvent w s = .next { s with err := .illegalOp })

/-- DECODE.MODE (R193, R197): only the length is checked; byte 4 gives Active, Query or Unknown. -/
def Obligations.DecodeModeMapsByteFour : Prop :=
  (∀ s : State, s.rxBusy = false → s.rxlen.toNat = 10 →
    exec .decodeMode s =
      .next { s with resKind := .mode, resFail := .none,
                     mode := if s.rxbuf[4] = 0x00 then .active else if s.rxbuf[4] = 0x01 then .query else .unknown,
                     fwDay := 0, fwMonth := 0, fwYear := 0, pm25Raw := 0, pm10Raw := 0, err := .ok }) ∧
  (∀ s : State, s.rxBusy = false → s.rxlen.toNat ≠ 10 →
    exec .decodeMode s =
      .next { s with resKind := .none, resFail := .len, mode := .active, fwDay := 0, fwMonth := 0, fwYear := 0,
                     pm25Raw := 0, pm10Raw := 0, err := .ok }) ∧
  (∀ s : State, s.rxBusy = true → exec .decodeMode s = .next { s with err := .busy }) ∧
  (∀ s : State, opEvent 0x00000023 s = exec .decodeMode s) ∧
  (∀ (w : Word) (s : State), w.extractLsb' 0 4 = 0x3 → w.extractLsb' 6 26 ≠ 0 →
    opEvent w s = .next { s with err := .illegalOp })

/-- DECODE.DATA (R149, R194): the checks in the order LEN, HEAD, TAIL, ID against 0xC0, and the two raw values low byte
first. -/
def Obligations.DecodeDataChecksThenReads : Prop :=
  (∀ s : State, s.rxBusy = false →
    s.rxlen.toNat = 10 → s.rxbuf[0] = 0xAA → s.rxbuf[9] = 0xAB → s.rxbuf[1] = 0xC0 →
    exec .decodeData s =
      .next { s with resKind := .data, resFail := .none, mode := .active, fwDay := 0, fwMonth := 0, fwYear := 0,
                     pm25Raw := s.rxbuf[3] ++ s.rxbuf[2], pm10Raw := s.rxbuf[5] ++ s.rxbuf[4], err := .ok }) ∧
  (∀ s : State, s.rxBusy = false →
    ¬ (s.rxlen.toNat = 10 ∧ s.rxbuf[0] = 0xAA ∧ s.rxbuf[9] = 0xAB ∧ s.rxbuf[1] = 0xC0) →
    exec .decodeData s =
      .next { s with resKind := .none,
                     resFail := if s.rxlen.toNat ≠ 10 then .len else if s.rxbuf[0] ≠ 0xAA then .head
                       else if s.rxbuf[9] ≠ 0xAB then .tail else .id,
                     mode := .active, fwDay := 0, fwMonth := 0, fwYear := 0, pm25Raw := 0, pm10Raw := 0, err := .ok }) ∧
  (∀ s : State, s.rxBusy = true → exec .decodeData s = .next { s with err := .busy }) ∧
  (∀ s : State, opEvent 0x00000033 s = exec .decodeData s) ∧
  (∀ (w : Word) (s : State), w.extractLsb' 0 4 = 0x3 → w.extractLsb' 6 26 ≠ 0 →
    opEvent w s = .next { s with err := .illegalOp })

/-- DECODE.AUTO (R200, R201): it does what the decoder of the last command's class does, and with no command it raises
NO_CMD and keeps the results. -/
def Obligations.DecodeAutoDispatchesOnTheLastCommand : Prop :=
  (∀ s : State, s.rxBusy = false → s.lastcmdValid = true →
    exec .decodeAuto s =
      (match s.config.catalog[s.lastcmd].cls with
        | .fw => exec .decodeFw s
        | .mode => exec .decodeMode s
        | .data => exec .decodeData s) ∧
    ∃ t, exec .decodeAuto s = .next t ∧ t.err = .ok) ∧
  (∀ s : State, s.rxBusy = false → s.lastcmdValid = false → exec .decodeAuto s = .next { s with err := .noCmd }) ∧
  (∀ s : State, s.rxBusy = true → exec .decodeAuto s = .next { s with err := .busy }) ∧
  (∀ s : State, opEvent 0x00000003 s = exec .decodeAuto s) ∧
  (∀ (w : Word) (s : State), w.extractLsb' 0 4 = 0x3 → w.extractLsb' 6 26 ≠ 0 →
    opEvent w s = .next { s with err := .illegalOp })

/-- The LASTCMD hazard (the spec derives it, R256): right after an accepted ENCODE of command c, DECODE.AUTO is the
decoder of c's class, whatever frame the buffer holds. -/
def Obligations.AutoFollowsTheLatestEncode : Prop :=
  ∀ (cmd : BitVec 3) (h : cmd.toNat < 5) (s t : State), exec (.encode cmd) s = .next t → t.err = .ok →
    t.rxbuf = s.rxbuf ∧ t.rxlen = s.rxlen ∧
    exec .decodeAuto t =
      (match s.config.catalog[cmd.toNat].cls with
        | .fw => exec .decodeFw t
        | .mode => exec .decodeMode t
        | .data => exec .decodeData t)

/-- A failed decode is no error (R190): a DECODE that passes issue leaves ERR = OK, and either RES_KIND = NONE with
RES_FAIL naming a check that failed and every value field 0, or a result with RES_FAIL = NONE. -/
def Obligations.FailedDecodesAreNoErrors : Prop :=
  ∀ (d : Instr) (s : State), d ∈ [Instr.decodeAuto, .decodeFw, .decodeMode, .decodeData] → s.rxBusy = false →
    (d = .decodeAuto → s.lastcmdValid = true) →
    ∃ t, exec d s = .next t ∧ t.err = .ok ∧
      ((t.resKind = .none ∧ t.resFail ≠ .none ∧ t.mode = .active ∧ t.fwDay = 0 ∧ t.fwMonth = 0 ∧ t.fwYear = 0 ∧
        t.pm25Raw = 0 ∧ t.pm10Raw = 0) ∨ (t.resKind ≠ .none ∧ t.resFail = .none)) ∧
      (t.resFail = .len ↔ s.rxlen.toNat ≠ 10) ∧ (t.resFail = .head → s.rxbuf[0] ≠ 0xAA) ∧
      (t.resFail = .tail → s.rxbuf[9] ≠ 0xAB) ∧ (t.resFail = .id → s.rxbuf[1] ≠ 0xC0)

/-- No value of a byte a decoder does not read changes its outcome (the spec derives it, R199): DATA reads bytes 0 to 5
and 9, MODE byte 4, FW its three offset bytes. So no decode depends on a checksum (R147). -/
def Obligations.DecodersIgnoreUnreadBytes : Prop :=
  ∀ (s : State) (buf : Vector Byte 10),
    ((∀ i : Fin 10, i.val ≤ 5 ∨ i.val = 9 → buf[i] = s.rxbuf[i]) →
      ∀ t u, exec .decodeData s = .next t → exec .decodeData { s with rxbuf := buf } = .next u →
        u = { t with rxbuf := buf }) ∧
    (buf[4] = s.rxbuf[4] →
      ∀ t u, exec .decodeMode s = .next t → exec .decodeMode { s with rxbuf := buf } = .next u →
        u = { t with rxbuf := buf }) ∧
    (buf[s.config.fwDayOff] = s.rxbuf[s.config.fwDayOff] → buf[s.config.fwMonthOff] = s.rxbuf[s.config.fwMonthOff] →
      buf[s.config.fwYearOff] = s.rxbuf[s.config.fwYearOff] →
      ∀ t u, exec .decodeFw s = .next t → exec .decodeFw { s with rxbuf := buf } = .next u →
        u = { t with rxbuf := buf })

/-- A DECODE consumes nothing and repeats (the spec derives it, R203): the same form again changes nothing. -/
def Obligations.DecodesRepeat : Prop :=
  ∀ (d : Instr) (s t : State), d ∈ [Instr.decodeAuto, .decodeFw, .decodeMode, .decodeData] → exec d s = .next t →
    t.rxbuf = s.rxbuf ∧ t.rxlen = s.rxlen ∧ exec d t = .next t

/-- The signed meaning of a raw PM pattern (R9, R195, R196): s16 of its two bytes, which is two's complement, and the
concentration is exactly a tenth of it. -/
def Obligations.PmIsSignedTenths : Prop :=
  (∀ lo hi : Byte, pmValue (hi ++ lo) =
    (hi.toNat : Int) * 256 + lo.toNat - (if 0x80 ≤ hi.toNat then 65536 else 0)) ∧
  (∀ raw : BitVec 16, pmValue raw = raw.toInt ∧ -32768 ≤ pmValue raw ∧ pmValue raw ≤ 32767 ∧
    pmPhysical raw * 10 = (pmValue raw : Rat))

/-! ### Reset, configuration and the clock cycle -/

/-- After RESET every state element holds its value of R58, whatever the state before, and every register reads 0 but
TXINFO, which reads 0x13. -/
def Obligations.ResetLeavesTheSpecsValues : Prop :=
  ∀ s : State, ∃ t, applyEvent .reset s = .next t ∧
    t.rxbuf.toList = List.replicate 10 0x00 ∧ t.rxlen = 0 ∧ t.target = 0 ∧ t.expid = 0x00 ∧ t.deadline = 0 ∧
    t.elapsed = 0 ∧ t.rxBusy = false ∧ t.doneCause = .none ∧ t.resyncCnt = 0 ∧
    t.txbuf.toList = List.replicate 19 0x00 ∧ t.txptr.toNat = 19 ∧ t.lastcmd.val = 0 ∧ t.lastcmdValid = false ∧
    t.err = .ok ∧ t.resKind = .none ∧ t.resFail = .none ∧ t.mode = .active ∧ t.fwDay = 0 ∧ t.fwMonth = 0 ∧
    t.fwYear = 0 ∧ t.pm25Raw = 0 ∧ t.pm10Raw = 0 ∧ t.rdata = 0 ∧ t.config = s.config ∧
    (∀ r : Reg, t.reg r = if r = .txinfo then 0x00000013 else 0x00000000)

/-- RESET reaches only the block and abandons its activity (R251, R252): both lines and the schedule are kept, the rest
of a frame is never sent, no byte is taken until a COLLECT, and after one the transport's bytes are offered as before. -/
def Obligations.ResetAbandonsActivityAndKeepsTheLines : Prop :=
  ∀ s t : State, applyEvent .reset s = .next t →
    t.rxLine = s.rxLine ∧ t.txLine = s.txLine ∧ t.sched = s.sched ∧ applyEvent .tx t = .next t ∧
    applyEvent .rx t = .next t ∧ applyEvent .tick t = .next t ∧
    ∃ u, exec (.collect 0xC0 10 1000) t = .next u ∧ u.rxBusy = true ∧ u.rxLine = s.rxLine

/-- Same-cycle order (R14): RST alone wins, else OP, RX, TX, TICK, each only when it is enabled; a clock cycle equals
running its events one step each; and with an ill-formed configuration it is refused (R7; the ranges of the firmware
offsets and the tick period are the model's choice, logs 7 and 9). Taking a byte only when the block drove ready or valid
in that cycle is the model's choice (log 11). -/
def Obligations.ClockCycleAppliesEventsInOrder : Prop :=
  (∀ (s : State) (i : Inputs), s.config.wf = true → i.rst = true → clockCycle i s = .next s.resetEvent) ∧
  (∀ (s : State) (i : Inputs), s.config.wf = false → clockCycle i s = .refused .illFormedConfig) ∧
  (∀ (s : State) (i : Inputs), i.rst = false →
    s.cycleEvents i =
      (if i.opValid = true then [Event.op i.opWord] else []) ++
        ((if i.rxValid = true ∧ s.rxBusy = true then [Event.rx] else []) ++
          ((if i.txReady = true ∧ s.txptr.toNat < 19 then [Event.tx] else []) ++
            (if i.tick = true then [Event.tick] else [])))) ∧
  (∀ (s : State) (i : Inputs), s.config.wf = true →
    ∃ t, clockCycle i s = .next t ∧ run (s.cycleEvents i).length (s.withCycle i) = .next t)

/-- A step is refused exactly when the configuration is ill-formed, and otherwise answers a next state, so no event ever
stops the block (R220). R7 refuses an ill-formed CATALOG; that a firmware offset outside 2..8 and a tick period of 0 are
refused too is the model's choice (logs 7 and 9). -/
def Obligations.StepStopsOnlyOnAnIllFormedConfiguration : Prop :=
  ∀ s : State,
    (s.config.wf = false → step s = .refused .illFormedConfig) ∧ (s.config.wf = true → ∃ t, step s = .next t)

/-- No event writes the configuration, the catalog in it (R23). -/
def Obligations.NoStepWritesTheConfiguration : Prop := ∀ s t : State, step s = .next t → t.config = s.config

/-! ### Frames -/

/-- What ENCODE leaves unchanged: the reader, the results, RDATA, the configuration and the surroundings (R22, R122). -/
def Obligations.EncodeFrame : Prop :=
  ∀ (cmd : BitVec 3) (s t : State), exec (.encode cmd) s = .next t →
    s.SameReader t ∧ s.SameResults t ∧ s.SameSurroundings t ∧ t.rdata = s.rdata ∧ t.config = s.config ∧
      (t.err ≠ .ok → s.SameTransmitter t)

/-- What COLLECT leaves unchanged: the results, the transmitter, RDATA, the configuration and the surroundings; and the
reader too when it raises (R22, R160). -/
def Obligations.CollectFrame : Prop :=
  ∀ (expid : Byte) (target : BitVec 4) (deadline : BitVec 12) (s t : State),
    exec (.collect expid target deadline) s = .next t →
    s.SameTransmitter t ∧ s.SameResults t ∧ s.SameSurroundings t ∧ t.rdata = s.rdata ∧ t.config = s.config ∧
      (t.err ≠ .ok → s.SameReader t)

/-- What every DECODE leaves unchanged: the reader, the transmitter, RDATA, the configuration and the surroundings; and
the results too when it raises (R22, R201). -/
def Obligations.DecodeFrame : Prop :=
  ∀ (d : Instr) (s t : State), d ∈ [Instr.decodeAuto, .decodeFw, .decodeMode, .decodeData] → exec d s = .next t →
    s.SameReader t ∧ s.SameTransmitter t ∧ s.SameSurroundings t ∧ t.rdata = s.rdata ∧ t.config = s.config ∧
      (t.err ≠ .ok → s.SameResults t)

/-- What NOP and RDREG leave unchanged: everything, ERR included, but RDATA for RDREG (R104, R105); so every register of
the map reads the same before and after any read (R68). -/
def Obligations.AccessFrame : Prop :=
  ∀ (i : Instr) (s t : State), (i = .nop ∨ ∃ r, i = .rdreg r) → exec i s = .next t →
    t = { s with rdata := t.rdata } ∧ (i = .nop → t.rdata = s.rdata) ∧ ∀ r : Reg, t.reg r = s.reg r

/-- What RX, TX and TICK leave unchanged (R22, R127, R165, R168). -/
def Obligations.LineAndTickFrame : Prop :=
  ∀ s t : State,
    (applyEvent .rx s = .next t →
      s.SameTransmitter t ∧ s.SameResults t ∧ t.err = s.err ∧ t.rdata = s.rdata ∧ t.config = s.config ∧
        t.txLine = s.txLine ∧ t.sched = s.sched ∧ t.target = s.target ∧ t.expid = s.expid ∧ t.deadline = s.deadline ∧
        t.elapsed = s.elapsed) ∧
    (applyEvent .tx s = .next t →
      s.SameReader t ∧ s.SameResults t ∧ t.err = s.err ∧ t.rdata = s.rdata ∧ t.config = s.config ∧
        t.rxLine = s.rxLine ∧ t.sched = s.sched ∧ t.txbuf = s.txbuf ∧ t.lastcmd = s.lastcmd ∧
        t.lastcmdValid = s.lastcmdValid) ∧
    (applyEvent .tick s = .next t →
      s.SameTransmitter t ∧ s.SameResults t ∧ s.SameSurroundings t ∧ t.err = s.err ∧ t.rdata = s.rdata ∧
        t.config = s.config ∧ t.rxbuf = s.rxbuf ∧ t.rxlen = s.rxlen ∧ t.target = s.target ∧ t.expid = s.expid ∧
        t.deadline = s.deadline ∧ t.resyncCnt = s.resyncCnt)

/-! ### Invariants -/

/-- The invariants of R35 hold right after reset. -/
def Obligations.ResetMeetsTheInvariants : Prop := State.reset.Inv ∧ State.reset.ResultsCoherent

/-- Every step keeps the invariants of R35 (the spec derives them). -/
def Obligations.StepKeepsTheInvariants : Prop := ∀ s t : State, s.Inv → step s = .next t → t.Inv

/-- Every step keeps the result registers one decode's output (R32, R190, R191, U16). -/
def Obligations.StepKeepsResultsCoherent : Prop :=
  ∀ s t : State, s.ResultsCoherent → step s = .next t → t.ResultsCoherent

/-! ### The assembler and the poll cycle -/

/-- The assembler accepts exactly the lines whose operands are in range, and the operands it writes are the numbers
written (R93). That COLLECT.FOR with a code of 5 or more, which has no catalog entry, is refused is the model's choice
(log 13). -/
def Obligations.AssemblerRefusesOutOfRange : Prop :=
  (∀ (cfg : Config) (line : AsmLine), (assemble cfg line).isSome = line.wf) ∧
  (∀ (cfg : Config) (n : Nat), assemble cfg (.encode (.code n)) = if n ≤ 7 then some (.encode (BitVec.ofNat 3 n)) else none) ∧
  (∀ (cfg : Config) (e t d : Nat) (i : Instr), assemble cfg (.collect e t d) = some i →
    e ≤ 255 ∧ t ≤ 15 ∧ d ≤ 4095 ∧ (encode i).toNat = d * 2 ^ 20 + t * 2 ^ 16 + e * 2 ^ 8 + 2) ∧
  (∀ (cfg : Config) (n : Nat) (i : Instr), assemble cfg (.rdreg (.number n)) = some i →
    n ≤ 15 ∧ (encode i).toNat = n * 2 ^ 4 + 4)

/-- The pseudo-operations expand as R94 says. -/
def Obligations.PseudoOperationsExpand : Prop :=
  ∀ cfg : Config,
    assemble cfg .decode = some .decodeAuto ∧
    (∀ (c : Fin 5) (d : Nat), d ≤ 4095 →
      assemble cfg (.collectFor (.name c) d) = some (.collect cfg.catalog[c].expId 10 (BitVec.ofNat 12 d)) ∧
      assemble cfg (.collectFor (.code c.val) d) = some (.collect cfg.catalog[c].expId 10 (BitVec.ofNat 12 d))) ∧
    (∀ r : Reg, assemble cfg (.read r) = some (.rdreg r) ∧
      assemble cfg (.rdreg (.number r.number.toNat)) = some (.rdreg r)) ∧
    (∀ c : Fin 5, assemble cfg (.encode (.name c)) = some (.encode (BitVec.ofNat 3 c.val)))

/-- The poll cycle's outcome (R264): a collection that has ended is decoded only when it is FULL, 10 bytes and
FRAME_VALID, and the exchange is Decoded only when DECODE.AUTO then gave a result; any other outcome is Failed. -/
def Obligations.PollCycleOutcome : Prop :=
  ∀ (p : PollParams) (h : PollState) (s : State), h.stopped = false → h.phase = .readingFrame → s.rxBusy = false →
    (h.decodeIssued = false → s.doneCause = .full ∧ s.rxlen.toNat = 10 ∧ s.frameValid = true →
      (pollStep p h s).1 = some .decodeAuto ∧ (pollStep p h s).2.phase = .readingFrame) ∧
    (h.decodeIssued = false → ¬ (s.doneCause = .full ∧ s.rxlen.toNat = 10 ∧ s.frameValid = true) →
      (pollStep p h s).1 = none ∧ (pollStep p h s).2.phase = .failed) ∧
    (h.decodeIssued = true → s.resKind ≠ .none → (pollStep p h s).2.phase = .decoded) ∧
    (h.decodeIssued = true → s.resKind = .none → (pollStep p h s).2.phase = .failed)
end

