-- ==== Sys2Proof/Laws/State.lean ====
section
/-! SUPPORT. One lemma per field per named update of State, so that no later proof unfolds a record update. -/

namespace Sys2Proof.Machine

variable (s : State)

/-! ### raise writes ERR alone (R220) -/

@[simp] theorem State.raise_config (e : ErrCode) : (s.raise e).config = s.config := rfl
@[simp] theorem State.raise_rxbuf (e : ErrCode) : (s.raise e).rxbuf = s.rxbuf := rfl
@[simp] theorem State.raise_rxlen (e : ErrCode) : (s.raise e).rxlen = s.rxlen := rfl
@[simp] theorem State.raise_target (e : ErrCode) : (s.raise e).target = s.target := rfl
@[simp] theorem State.raise_expid (e : ErrCode) : (s.raise e).expid = s.expid := rfl
@[simp] theorem State.raise_deadline (e : ErrCode) : (s.raise e).deadline = s.deadline := rfl
@[simp] theorem State.raise_elapsed (e : ErrCode) : (s.raise e).elapsed = s.elapsed := rfl
@[simp] theorem State.raise_rxBusy (e : ErrCode) : (s.raise e).rxBusy = s.rxBusy := rfl
@[simp] theorem State.raise_doneCause (e : ErrCode) : (s.raise e).doneCause = s.doneCause := rfl
@[simp] theorem State.raise_resyncCnt (e : ErrCode) : (s.raise e).resyncCnt = s.resyncCnt := rfl
@[simp] theorem State.raise_txbuf (e : ErrCode) : (s.raise e).txbuf = s.txbuf := rfl
@[simp] theorem State.raise_txptr (e : ErrCode) : (s.raise e).txptr = s.txptr := rfl
@[simp] theorem State.raise_lastcmd (e : ErrCode) : (s.raise e).lastcmd = s.lastcmd := rfl
@[simp] theorem State.raise_lastcmdValid (e : ErrCode) : (s.raise e).lastcmdValid = s.lastcmdValid := rfl
@[simp] theorem State.raise_err (e : ErrCode) : (s.raise e).err = e := rfl
@[simp] theorem State.raise_resKind (e : ErrCode) : (s.raise e).resKind = s.resKind := rfl
@[simp] theorem State.raise_resFail (e : ErrCode) : (s.raise e).resFail = s.resFail := rfl
@[simp] theorem State.raise_mode (e : ErrCode) : (s.raise e).mode = s.mode := rfl
@[simp] theorem State.raise_fwDay (e : ErrCode) : (s.raise e).fwDay = s.fwDay := rfl
@[simp] theorem State.raise_fwMonth (e : ErrCode) : (s.raise e).fwMonth = s.fwMonth := rfl
@[simp] theorem State.raise_fwYear (e : ErrCode) : (s.raise e).fwYear = s.fwYear := rfl
@[simp] theorem State.raise_pm25Raw (e : ErrCode) : (s.raise e).pm25Raw = s.pm25Raw := rfl
@[simp] theorem State.raise_pm10Raw (e : ErrCode) : (s.raise e).pm10Raw = s.pm10Raw := rfl
@[simp] theorem State.raise_rdata (e : ErrCode) : (s.raise e).rdata = s.rdata := rfl
@[simp] theorem State.raise_rxLine (e : ErrCode) : (s.raise e).rxLine = s.rxLine := rfl
@[simp] theorem State.raise_txLine (e : ErrCode) : (s.raise e).txLine = s.txLine := rfl
@[simp] theorem State.raise_sched (e : ErrCode) : (s.raise e).sched = s.sched := rfl

/-! ### clear_results (R191) -/

@[simp] theorem State.clearResults_config : (s.clearResults).config = s.config := rfl
@[simp] theorem State.clearResults_rxbuf : (s.clearResults).rxbuf = s.rxbuf := rfl
@[simp] theorem State.clearResults_rxlen : (s.clearResults).rxlen = s.rxlen := rfl
@[simp] theorem State.clearResults_target : (s.clearResults).target = s.target := rfl
@[simp] theorem State.clearResults_expid : (s.clearResults).expid = s.expid := rfl
@[simp] theorem State.clearResults_deadline : (s.clearResults).deadline = s.deadline := rfl
@[simp] theorem State.clearResults_elapsed : (s.clearResults).elapsed = s.elapsed := rfl
@[simp] theorem State.clearResults_rxBusy : (s.clearResults).rxBusy = s.rxBusy := rfl
@[simp] theorem State.clearResults_doneCause : (s.clearResults).doneCause = s.doneCause := rfl
@[simp] theorem State.clearResults_resyncCnt : (s.clearResults).resyncCnt = s.resyncCnt := rfl
@[simp] theorem State.clearResults_txbuf : (s.clearResults).txbuf = s.txbuf := rfl
@[simp] theorem State.clearResults_txptr : (s.clearResults).txptr = s.txptr := rfl
@[simp] theorem State.clearResults_lastcmd : (s.clearResults).lastcmd = s.lastcmd := rfl
@[simp] theorem State.clearResults_lastcmdValid : (s.clearResults).lastcmdValid = s.lastcmdValid := rfl
@[simp] theorem State.clearResults_err : (s.clearResults).err = .ok := rfl
@[simp] theorem State.clearResults_resKind : (s.clearResults).resKind = .none := rfl
@[simp] theorem State.clearResults_resFail : (s.clearResults).resFail = .none := rfl
@[simp] theorem State.clearResults_mode : (s.clearResults).mode = .active := rfl
@[simp] theorem State.clearResults_fwDay : (s.clearResults).fwDay = 0x00 := rfl
@[simp] theorem State.clearResults_fwMonth : (s.clearResults).fwMonth = 0x00 := rfl
@[simp] theorem State.clearResults_fwYear : (s.clearResults).fwYear = 0x00 := rfl
@[simp] theorem State.clearResults_pm25Raw : (s.clearResults).pm25Raw = 0x0000 := rfl
@[simp] theorem State.clearResults_pm10Raw : (s.clearResults).pm10Raw = 0x0000 := rfl
@[simp] theorem State.clearResults_rdata : (s.clearResults).rdata = s.rdata := rfl
@[simp] theorem State.clearResults_rxLine : (s.clearResults).rxLine = s.rxLine := rfl
@[simp] theorem State.clearResults_txLine : (s.clearResults).txLine = s.txLine := rfl
@[simp] theorem State.clearResults_sched : (s.clearResults).sched = s.sched := rfl

/-! ### discard (R166) -/

@[simp] theorem State.discard_config : (s.discard).config = s.config := rfl
@[simp] theorem State.discard_rxbuf : (s.discard).rxbuf = emptyRxbuf := rfl
@[simp] theorem State.discard_rxlen : (s.discard).rxlen = 0 := rfl
@[simp] theorem State.discard_target : (s.discard).target = s.target := rfl
@[simp] theorem State.discard_expid : (s.discard).expid = s.expid := rfl
@[simp] theorem State.discard_deadline : (s.discard).deadline = s.deadline := rfl
@[simp] theorem State.discard_elapsed : (s.discard).elapsed = s.elapsed := rfl
@[simp] theorem State.discard_rxBusy : (s.discard).rxBusy = s.rxBusy := rfl
@[simp] theorem State.discard_doneCause : (s.discard).doneCause = s.doneCause := rfl
@[simp] theorem State.discard_resyncCnt : (s.discard).resyncCnt = resyncNext s.resyncCnt := rfl
@[simp] theorem State.discard_txbuf : (s.discard).txbuf = s.txbuf := rfl
@[simp] theorem State.discard_txptr : (s.discard).txptr = s.txptr := rfl
@[simp] theorem State.discard_lastcmd : (s.discard).lastcmd = s.lastcmd := rfl
@[simp] theorem State.discard_lastcmdValid : (s.discard).lastcmdValid = s.lastcmdValid := rfl
@[simp] theorem State.discard_err : (s.discard).err = s.err := rfl
@[simp] theorem State.discard_resKind : (s.discard).resKind = s.resKind := rfl
@[simp] theorem State.discard_resFail : (s.discard).resFail = s.resFail := rfl
@[simp] theorem State.discard_mode : (s.discard).mode = s.mode := rfl
@[simp] theorem State.discard_fwDay : (s.discard).fwDay = s.fwDay := rfl
@[simp] theorem State.discard_fwMonth : (s.discard).fwMonth = s.fwMonth := rfl
@[simp] theorem State.discard_fwYear : (s.discard).fwYear = s.fwYear := rfl
@[simp] theorem State.discard_pm25Raw : (s.discard).pm25Raw = s.pm25Raw := rfl
@[simp] theorem State.discard_pm10Raw : (s.discard).pm10Raw = s.pm10Raw := rfl
@[simp] theorem State.discard_rdata : (s.discard).rdata = s.rdata := rfl
@[simp] theorem State.discard_rxLine : (s.discard).rxLine = s.rxLine := rfl
@[simp] theorem State.discard_txLine : (s.discard).txLine = s.txLine := rfl
@[simp] theorem State.discard_sched : (s.discard).sched = s.sched := rfl

/-! ### appending a byte (R165) -/

@[simp] theorem State.appendByte_config (b : Byte) : (s.appendByte b).config = s.config := rfl
@[simp] theorem State.appendByte_rxbuf (b : Byte) : (s.appendByte b).rxbuf = s.rxbuf.setIfInBounds s.rxlen.toNat b := rfl
@[simp] theorem State.appendByte_rxlen (b : Byte) : (s.appendByte b).rxlen = s.rxlen + 1 := rfl
@[simp] theorem State.appendByte_target (b : Byte) : (s.appendByte b).target = s.target := rfl
@[simp] theorem State.appendByte_expid (b : Byte) : (s.appendByte b).expid = s.expid := rfl
@[simp] theorem State.appendByte_deadline (b : Byte) : (s.appendByte b).deadline = s.deadline := rfl
@[simp] theorem State.appendByte_elapsed (b : Byte) : (s.appendByte b).elapsed = s.elapsed := rfl
@[simp] theorem State.appendByte_rxBusy (b : Byte) : (s.appendByte b).rxBusy = s.rxBusy := rfl
@[simp] theorem State.appendByte_doneCause (b : Byte) : (s.appendByte b).doneCause = s.doneCause := rfl
@[simp] theorem State.appendByte_resyncCnt (b : Byte) : (s.appendByte b).resyncCnt = s.resyncCnt := rfl
@[simp] theorem State.appendByte_txbuf (b : Byte) : (s.appendByte b).txbuf = s.txbuf := rfl
@[simp] theorem State.appendByte_txptr (b : Byte) : (s.appendByte b).txptr = s.txptr := rfl
@[simp] theorem State.appendByte_lastcmd (b : Byte) : (s.appendByte b).lastcmd = s.lastcmd := rfl
@[simp] theorem State.appendByte_lastcmdValid (b : Byte) : (s.appendByte b).lastcmdValid = s.lastcmdValid := rfl
@[simp] theorem State.appendByte_err (b : Byte) : (s.appendByte b).err = s.err := rfl
@[simp] theorem State.appendByte_resKind (b : Byte) : (s.appendByte b).resKind = s.resKind := rfl
@[simp] theorem State.appendByte_resFail (b : Byte) : (s.appendByte b).resFail = s.resFail := rfl
@[simp] theorem State.appendByte_mode (b : Byte) : (s.appendByte b).mode = s.mode := rfl
@[simp] theorem State.appendByte_fwDay (b : Byte) : (s.appendByte b).fwDay = s.fwDay := rfl
@[simp] theorem State.appendByte_fwMonth (b : Byte) : (s.appendByte b).fwMonth = s.fwMonth := rfl
@[simp] theorem State.appendByte_fwYear (b : Byte) : (s.appendByte b).fwYear = s.fwYear := rfl
@[simp] theorem State.appendByte_pm25Raw (b : Byte) : (s.appendByte b).pm25Raw = s.pm25Raw := rfl
@[simp] theorem State.appendByte_pm10Raw (b : Byte) : (s.appendByte b).pm10Raw = s.pm10Raw := rfl
@[simp] theorem State.appendByte_rdata (b : Byte) : (s.appendByte b).rdata = s.rdata := rfl
@[simp] theorem State.appendByte_rxLine (b : Byte) : (s.appendByte b).rxLine = s.rxLine := rfl
@[simp] theorem State.appendByte_txLine (b : Byte) : (s.appendByte b).txLine = s.txLine := rfl
@[simp] theorem State.appendByte_sched (b : Byte) : (s.appendByte b).sched = s.sched := rfl

/-! ### RESET (R250, R252) -/

@[simp] theorem State.resetEvent_config : (s.resetEvent).config = s.config := rfl
@[simp] theorem State.resetEvent_rxbuf : (s.resetEvent).rxbuf = Vector.replicate bufCap 0x00 := rfl
@[simp] theorem State.resetEvent_rxlen : (s.resetEvent).rxlen = 0 := rfl
@[simp] theorem State.resetEvent_target : (s.resetEvent).target = 0 := rfl
@[simp] theorem State.resetEvent_expid : (s.resetEvent).expid = 0x00 := rfl
@[simp] theorem State.resetEvent_deadline : (s.resetEvent).deadline = 0 := rfl
@[simp] theorem State.resetEvent_elapsed : (s.resetEvent).elapsed = 0 := rfl
@[simp] theorem State.resetEvent_rxBusy : (s.resetEvent).rxBusy = false := rfl
@[simp] theorem State.resetEvent_doneCause : (s.resetEvent).doneCause = .none := rfl
@[simp] theorem State.resetEvent_resyncCnt : (s.resetEvent).resyncCnt = 0 := rfl
@[simp] theorem State.resetEvent_txbuf : (s.resetEvent).txbuf = Vector.replicate cmdFrameLen 0x00 := rfl
@[simp] theorem State.resetEvent_txptr : (s.resetEvent).txptr = 19 := rfl
@[simp] theorem State.resetEvent_lastcmd : (s.resetEvent).lastcmd = 0 := rfl
@[simp] theorem State.resetEvent_lastcmdValid : (s.resetEvent).lastcmdValid = false := rfl
@[simp] theorem State.resetEvent_err : (s.resetEvent).err = .ok := rfl
@[simp] theorem State.resetEvent_resKind : (s.resetEvent).resKind = .none := rfl
@[simp] theorem State.resetEvent_resFail : (s.resetEvent).resFail = .none := rfl
@[simp] theorem State.resetEvent_mode : (s.resetEvent).mode = .active := rfl
@[simp] theorem State.resetEvent_fwDay : (s.resetEvent).fwDay = 0x00 := rfl
@[simp] theorem State.resetEvent_fwMonth : (s.resetEvent).fwMonth = 0x00 := rfl
@[simp] theorem State.resetEvent_fwYear : (s.resetEvent).fwYear = 0x00 := rfl
@[simp] theorem State.resetEvent_pm25Raw : (s.resetEvent).pm25Raw = 0x0000 := rfl
@[simp] theorem State.resetEvent_pm10Raw : (s.resetEvent).pm10Raw = 0x0000 := rfl
@[simp] theorem State.resetEvent_rdata : (s.resetEvent).rdata = 0x00000000 := rfl
@[simp] theorem State.resetEvent_rxLine : (s.resetEvent).rxLine = s.rxLine := rfl
@[simp] theorem State.resetEvent_txLine : (s.resetEvent).txLine = s.txLine := rfl
@[simp] theorem State.resetEvent_sched : (s.resetEvent).sched = s.sched := rfl

/-! ### The results of the decoders (R192 to R194) -/

@[simp] theorem State.fwResult_config : (s.fwResult).config = s.config := rfl
@[simp] theorem State.fwResult_rxbuf : (s.fwResult).rxbuf = s.rxbuf := rfl
@[simp] theorem State.fwResult_rxlen : (s.fwResult).rxlen = s.rxlen := rfl
@[simp] theorem State.fwResult_target : (s.fwResult).target = s.target := rfl
@[simp] theorem State.fwResult_expid : (s.fwResult).expid = s.expid := rfl
@[simp] theorem State.fwResult_deadline : (s.fwResult).deadline = s.deadline := rfl
@[simp] theorem State.fwResult_elapsed : (s.fwResult).elapsed = s.elapsed := rfl
@[simp] theorem State.fwResult_rxBusy : (s.fwResult).rxBusy = s.rxBusy := rfl
@[simp] theorem State.fwResult_doneCause : (s.fwResult).doneCause = s.doneCause := rfl
@[simp] theorem State.fwResult_resyncCnt : (s.fwResult).resyncCnt = s.resyncCnt := rfl
@[simp] theorem State.fwResult_txbuf : (s.fwResult).txbuf = s.txbuf := rfl
@[simp] theorem State.fwResult_txptr : (s.fwResult).txptr = s.txptr := rfl
@[simp] theorem State.fwResult_lastcmd : (s.fwResult).lastcmd = s.lastcmd := rfl
@[simp] theorem State.fwResult_lastcmdValid : (s.fwResult).lastcmdValid = s.lastcmdValid := rfl
@[simp] theorem State.fwResult_err : (s.fwResult).err = s.err := rfl
@[simp] theorem State.fwResult_resKind : (s.fwResult).resKind = .fw := rfl
@[simp] theorem State.fwResult_resFail : (s.fwResult).resFail = s.resFail := rfl
@[simp] theorem State.fwResult_mode : (s.fwResult).mode = s.mode := rfl
@[simp] theorem State.fwResult_fwDay : (s.fwResult).fwDay = s.rxbuf[s.config.fwDayOff] := rfl
@[simp] theorem State.fwResult_fwMonth : (s.fwResult).fwMonth = s.rxbuf[s.config.fwMonthOff] := rfl
@[simp] theorem State.fwResult_fwYear : (s.fwResult).fwYear = s.rxbuf[s.config.fwYearOff] := rfl
@[simp] theorem State.fwResult_pm25Raw : (s.fwResult).pm25Raw = s.pm25Raw := rfl
@[simp] theorem State.fwResult_pm10Raw : (s.fwResult).pm10Raw = s.pm10Raw := rfl
@[simp] theorem State.fwResult_rdata : (s.fwResult).rdata = s.rdata := rfl
@[simp] theorem State.fwResult_rxLine : (s.fwResult).rxLine = s.rxLine := rfl
@[simp] theorem State.fwResult_txLine : (s.fwResult).txLine = s.txLine := rfl
@[simp] theorem State.fwResult_sched : (s.fwResult).sched = s.sched := rfl

@[simp] theorem State.modeResult_config : (s.modeResult).config = s.config := rfl
@[simp] theorem State.modeResult_rxbuf : (s.modeResult).rxbuf = s.rxbuf := rfl
@[simp] theorem State.modeResult_rxlen : (s.modeResult).rxlen = s.rxlen := rfl
@[simp] theorem State.modeResult_target : (s.modeResult).target = s.target := rfl
@[simp] theorem State.modeResult_expid : (s.modeResult).expid = s.expid := rfl
@[simp] theorem State.modeResult_deadline : (s.modeResult).deadline = s.deadline := rfl
@[simp] theorem State.modeResult_elapsed : (s.modeResult).elapsed = s.elapsed := rfl
@[simp] theorem State.modeResult_rxBusy : (s.modeResult).rxBusy = s.rxBusy := rfl
@[simp] theorem State.modeResult_doneCause : (s.modeResult).doneCause = s.doneCause := rfl
@[simp] theorem State.modeResult_resyncCnt : (s.modeResult).resyncCnt = s.resyncCnt := rfl
@[simp] theorem State.modeResult_txbuf : (s.modeResult).txbuf = s.txbuf := rfl
@[simp] theorem State.modeResult_txptr : (s.modeResult).txptr = s.txptr := rfl
@[simp] theorem State.modeResult_lastcmd : (s.modeResult).lastcmd = s.lastcmd := rfl
@[simp] theorem State.modeResult_lastcmdValid : (s.modeResult).lastcmdValid = s.lastcmdValid := rfl
@[simp] theorem State.modeResult_err : (s.modeResult).err = s.err := rfl
@[simp] theorem State.modeResult_resKind : (s.modeResult).resKind = .mode := rfl
@[simp] theorem State.modeResult_resFail : (s.modeResult).resFail = s.resFail := rfl
@[simp] theorem State.modeResult_mode : (s.modeResult).mode = modeOf s.rxbuf[modeOff] := rfl
@[simp] theorem State.modeResult_fwDay : (s.modeResult).fwDay = s.fwDay := rfl
@[simp] theorem State.modeResult_fwMonth : (s.modeResult).fwMonth = s.fwMonth := rfl
@[simp] theorem State.modeResult_fwYear : (s.modeResult).fwYear = s.fwYear := rfl
@[simp] theorem State.modeResult_pm25Raw : (s.modeResult).pm25Raw = s.pm25Raw := rfl
@[simp] theorem State.modeResult_pm10Raw : (s.modeResult).pm10Raw = s.pm10Raw := rfl
@[simp] theorem State.modeResult_rdata : (s.modeResult).rdata = s.rdata := rfl
@[simp] theorem State.modeResult_rxLine : (s.modeResult).rxLine = s.rxLine := rfl
@[simp] theorem State.modeResult_txLine : (s.modeResult).txLine = s.txLine := rfl
@[simp] theorem State.modeResult_sched : (s.modeResult).sched = s.sched := rfl

@[simp] theorem State.dataResult_config : (s.dataResult).config = s.config := rfl
@[simp] theorem State.dataResult_rxbuf : (s.dataResult).rxbuf = s.rxbuf := rfl
@[simp] theorem State.dataResult_rxlen : (s.dataResult).rxlen = s.rxlen := rfl
@[simp] theorem State.dataResult_target : (s.dataResult).target = s.target := rfl
@[simp] theorem State.dataResult_expid : (s.dataResult).expid = s.expid := rfl
@[simp] theorem State.dataResult_deadline : (s.dataResult).deadline = s.deadline := rfl
@[simp] theorem State.dataResult_elapsed : (s.dataResult).elapsed = s.elapsed := rfl
@[simp] theorem State.dataResult_rxBusy : (s.dataResult).rxBusy = s.rxBusy := rfl
@[simp] theorem State.dataResult_doneCause : (s.dataResult).doneCause = s.doneCause := rfl
@[simp] theorem State.dataResult_resyncCnt : (s.dataResult).resyncCnt = s.resyncCnt := rfl
@[simp] theorem State.dataResult_txbuf : (s.dataResult).txbuf = s.txbuf := rfl
@[simp] theorem State.dataResult_txptr : (s.dataResult).txptr = s.txptr := rfl
@[simp] theorem State.dataResult_lastcmd : (s.dataResult).lastcmd = s.lastcmd := rfl
@[simp] theorem State.dataResult_lastcmdValid : (s.dataResult).lastcmdValid = s.lastcmdValid := rfl
@[simp] theorem State.dataResult_err : (s.dataResult).err = s.err := rfl
@[simp] theorem State.dataResult_resKind : (s.dataResult).resKind = .data := rfl
@[simp] theorem State.dataResult_resFail : (s.dataResult).resFail = s.resFail := rfl
@[simp] theorem State.dataResult_mode : (s.dataResult).mode = s.mode := rfl
@[simp] theorem State.dataResult_fwDay : (s.dataResult).fwDay = s.fwDay := rfl
@[simp] theorem State.dataResult_fwMonth : (s.dataResult).fwMonth = s.fwMonth := rfl
@[simp] theorem State.dataResult_fwYear : (s.dataResult).fwYear = s.fwYear := rfl
@[simp] theorem State.dataResult_pm25Raw : (s.dataResult).pm25Raw = rawPm s.rxbuf[pm25Off] s.rxbuf[pm25Off + 1] := rfl
@[simp] theorem State.dataResult_pm10Raw : (s.dataResult).pm10Raw = rawPm s.rxbuf[pm10Off] s.rxbuf[pm10Off + 1] := rfl
@[simp] theorem State.dataResult_rdata : (s.dataResult).rdata = s.rdata := rfl
@[simp] theorem State.dataResult_rxLine : (s.dataResult).rxLine = s.rxLine := rfl
@[simp] theorem State.dataResult_txLine : (s.dataResult).txLine = s.txLine := rfl
@[simp] theorem State.dataResult_sched : (s.dataResult).sched = s.sched := rfl

/-! ### end_check keeps every field but RX_BUSY and DONE_CAUSE (R162) -/

@[simp] theorem State.endCheck_config : s.endCheck.config = s.config := by unfold State.endCheck; split <;> [rfl; (split <;> rfl)]
@[simp] theorem State.endCheck_rxbuf : s.endCheck.rxbuf = s.rxbuf := by unfold State.endCheck; split <;> [rfl; (split <;> rfl)]
@[simp] theorem State.endCheck_rxlen : s.endCheck.rxlen = s.rxlen := by unfold State.endCheck; split <;> [rfl; (split <;> rfl)]
@[simp] theorem State.endCheck_target : s.endCheck.target = s.target := by unfold State.endCheck; split <;> [rfl; (split <;> rfl)]
@[simp] theorem State.endCheck_expid : s.endCheck.expid = s.expid := by unfold State.endCheck; split <;> [rfl; (split <;> rfl)]
@[simp] theorem State.endCheck_deadline : s.endCheck.deadline = s.deadline := by unfold State.endCheck; split <;> [rfl; (split <;> rfl)]
@[simp] theorem State.endCheck_elapsed : s.endCheck.elapsed = s.elapsed := by unfold State.endCheck; split <;> [rfl; (split <;> rfl)]
@[simp] theorem State.endCheck_resyncCnt : s.endCheck.resyncCnt = s.resyncCnt := by unfold State.endCheck; split <;> [rfl; (split <;> rfl)]
@[simp] theorem State.endCheck_txbuf : s.endCheck.txbuf = s.txbuf := by unfold State.endCheck; split <;> [rfl; (split <;> rfl)]
@[simp] theorem State.endCheck_txptr : s.endCheck.txptr = s.txptr := by unfold State.endCheck; split <;> [rfl; (split <;> rfl)]
@[simp] theorem State.endCheck_lastcmd : s.endCheck.lastcmd = s.lastcmd := by unfold State.endCheck; split <;> [rfl; (split <;> rfl)]
@[simp] theorem State.endCheck_lastcmdValid : s.endCheck.lastcmdValid = s.lastcmdValid := by unfold State.endCheck; split <;> [rfl; (split <;> rfl)]
@[simp] theorem State.endCheck_err : s.endCheck.err = s.err := by unfold State.endCheck; split <;> [rfl; (split <;> rfl)]
@[simp] theorem State.endCheck_resKind : s.endCheck.resKind = s.resKind := by unfold State.endCheck; split <;> [rfl; (split <;> rfl)]
@[simp] theorem State.endCheck_resFail : s.endCheck.resFail = s.resFail := by unfold State.endCheck; split <;> [rfl; (split <;> rfl)]
@[simp] theorem State.endCheck_mode : s.endCheck.mode = s.mode := by unfold State.endCheck; split <;> [rfl; (split <;> rfl)]
@[simp] theorem State.endCheck_fwDay : s.endCheck.fwDay = s.fwDay := by unfold State.endCheck; split <;> [rfl; (split <;> rfl)]
@[simp] theorem State.endCheck_fwMonth : s.endCheck.fwMonth = s.fwMonth := by unfold State.endCheck; split <;> [rfl; (split <;> rfl)]
@[simp] theorem State.endCheck_fwYear : s.endCheck.fwYear = s.fwYear := by unfold State.endCheck; split <;> [rfl; (split <;> rfl)]
@[simp] theorem State.endCheck_pm25Raw : s.endCheck.pm25Raw = s.pm25Raw := by unfold State.endCheck; split <;> [rfl; (split <;> rfl)]
@[simp] theorem State.endCheck_pm10Raw : s.endCheck.pm10Raw = s.pm10Raw := by unfold State.endCheck; split <;> [rfl; (split <;> rfl)]
@[simp] theorem State.endCheck_rdata : s.endCheck.rdata = s.rdata := by unfold State.endCheck; split <;> [rfl; (split <;> rfl)]
@[simp] theorem State.endCheck_rxLine : s.endCheck.rxLine = s.rxLine := by unfold State.endCheck; split <;> [rfl; (split <;> rfl)]
@[simp] theorem State.endCheck_txLine : s.endCheck.txLine = s.txLine := by unfold State.endCheck; split <;> [rfl; (split <;> rfl)]
@[simp] theorem State.endCheck_sched : s.endCheck.sched = s.sched := by unfold State.endCheck; split <;> [rfl; (split <;> rfl)]

/-! ### The resynchronisation keeps every field but the buffer, its length and the count (R166) -/

@[simp] theorem State.resync_config : s.resync.config = s.config := by unfold State.resync; split <;> rfl
@[simp] theorem State.resync_target : s.resync.target = s.target := by unfold State.resync; split <;> rfl
@[simp] theorem State.resync_expid : s.resync.expid = s.expid := by unfold State.resync; split <;> rfl
@[simp] theorem State.resync_deadline : s.resync.deadline = s.deadline := by unfold State.resync; split <;> rfl
@[simp] theorem State.resync_elapsed : s.resync.elapsed = s.elapsed := by unfold State.resync; split <;> rfl
@[simp] theorem State.resync_rxBusy : s.resync.rxBusy = s.rxBusy := by unfold State.resync; split <;> rfl
@[simp] theorem State.resync_doneCause : s.resync.doneCause = s.doneCause := by unfold State.resync; split <;> rfl
@[simp] theorem State.resync_txbuf : s.resync.txbuf = s.txbuf := by unfold State.resync; split <;> rfl
@[simp] theorem State.resync_txptr : s.resync.txptr = s.txptr := by unfold State.resync; split <;> rfl
@[simp] theorem State.resync_lastcmd : s.resync.lastcmd = s.lastcmd := by unfold State.resync; split <;> rfl
@[simp] theorem State.resync_lastcmdValid : s.resync.lastcmdValid = s.lastcmdValid := by unfold State.resync; split <;> rfl
@[simp] theorem State.resync_err : s.resync.err = s.err := by unfold State.resync; split <;> rfl
@[simp] theorem State.resync_resKind : s.resync.resKind = s.resKind := by unfold State.resync; split <;> rfl
@[simp] theorem State.resync_resFail : s.resync.resFail = s.resFail := by unfold State.resync; split <;> rfl
@[simp] theorem State.resync_mode : s.resync.mode = s.mode := by unfold State.resync; split <;> rfl
@[simp] theorem State.resync_fwDay : s.resync.fwDay = s.fwDay := by unfold State.resync; split <;> rfl
@[simp] theorem State.resync_fwMonth : s.resync.fwMonth = s.fwMonth := by unfold State.resync; split <;> rfl
@[simp] theorem State.resync_fwYear : s.resync.fwYear = s.fwYear := by unfold State.resync; split <;> rfl
@[simp] theorem State.resync_pm25Raw : s.resync.pm25Raw = s.pm25Raw := by unfold State.resync; split <;> rfl
@[simp] theorem State.resync_pm10Raw : s.resync.pm10Raw = s.pm10Raw := by unfold State.resync; split <;> rfl
@[simp] theorem State.resync_rdata : s.resync.rdata = s.rdata := by unfold State.resync; split <;> rfl
@[simp] theorem State.resync_rxLine : s.resync.rxLine = s.rxLine := by unfold State.resync; split <;> rfl
@[simp] theorem State.resync_txLine : s.resync.txLine = s.txLine := by unfold State.resync; split <;> rfl
@[simp] theorem State.resync_sched : s.resync.sched = s.sched := by unfold State.resync; split <;> rfl

end Sys2Proof.Machine
end

