-- ==== Sys2Proof/Laws/Ops.lean ====
section
/-! SUPPORT. What each shared operation can do, said once: the lemmas later proofs cite instead of unfolding. -/

namespace Sys2Proof.Machine

/-! ### Constants the arithmetic of a proof needs as numbers -/

theorem bufCap_eq : bufCap = 10 := rfl

theorem cmdFrameLen_eq : cmdFrameLen = 19 := rfl

theorem respFrameLen_eq : respFrameLen = 10 := rfl

theorem nCmd_eq : nCmd = 5 := rfl

theorem deadlineW_eq : deadlineW = 12 := rfl

theorem resyncW_eq : resyncW = 16 := rfl

/-! ### The counters, in the ranges where they count -/

/-- RXLEN + 1 does not wrap below 15 (R165). -/
theorem rxlen_succ {n : BitVec 4} (h : n.toNat < 15) : (n + 1).toNat = n.toNat + 1 := by
  rw [BitVec.toNat_add]
  simp
  omega

/-- ELAPSED + 1 does not wrap below DEADLINE (R168). -/
theorem elapsed_succ {e d : BitVec deadlineW} (h : e.toNat < d.toNat) : (e + 1).toNat = e.toNat + 1 := by
  have := d.isLt
  rw [BitVec.toNat_add]
  simp only [deadlineW] at *
  simp
  omega

/-- TXPTR + 1 does not wrap below 19 (R127). -/
theorem txptr_succ {p : BitVec 5} (h : p.toNat < 19) : (p + 1).toNat = p.toNat + 1 := by
  rw [BitVec.toNat_add]
  simp
  omega

/-- RESYNC_CNT counts and saturates at 0xFFFF (R27, R166). -/
theorem resyncNext_toNat (c : BitVec resyncW) : (resyncNext c).toNat = min (c.toNat + 1) 0xFFFF := by
  unfold resyncNext
  rw [BitVec.toNat_ofNat]
  simp only [resyncW]
  omega

/-! ### Flags -/

/-- TX_BUSY reads TXPTR alone (R28). -/
theorem State.txBusy_iff (s : State) : s.txBusy = true ↔ s.txptr.toNat < 19 := by
  simp [State.txBusy]

/-- Nothing left to send (R28). -/
theorem State.txBusy_false_iff (s : State) : s.txBusy = false ↔ 19 ≤ s.txptr.toNat := by
  simp [State.txBusy]

/-- tx_data while a frame is being sent (R34). -/
theorem State.txData_of_lt (s : State) (h : s.txptr.toNat < 19) : s.txData = s.txbuf[s.txptr.toNat] := by
  simp [State.txData, h]

/-- The reader's check, as a proposition (R145). -/
theorem syncOk_iff (rxbuf : Vector Byte bufCap) (expid : Byte) :
    syncOk rxbuf expid = true ↔ rxbuf[0] = 0xAA ∧ rxbuf[1] = expid := by
  simp [syncOk]

/-! ### Issue -/

/-- An operation either raises BUSY or performs its body (R100, R103). -/
theorem issue_cases {i : Instr} {body : State → State} {s t : State} (h : issue i body s = .next t) :
    (s.refusedBusy i = true ∧ t = s.raise .busy) ∨ (s.refusedBusy i = false ∧ t = body s) := by
  cases hb : s.refusedBusy i <;> simp [issue, hb] at h <;> simp [h]

/-- A refused operation raises BUSY (R103). -/
theorem issue_of_busy {i : Instr} {body : State → State} {s : State} (h : s.refusedBusy i = true) :
    issue i body s = .next (s.raise .busy) := by
  simp [issue, h]

/-- An operation that is not refused performs its body (R100). -/
theorem issue_of_free {i : Instr} {body : State → State} {s : State} (h : s.refusedBusy i = false) :
    issue i body s = .next (body s) := by
  simp [issue, h]

/-- The body of each operation, for a proof that treats them alike (R100). -/
def bodyOf : Instr → State → State
  | .nop, s => s
  | .encode cmd, s => s.encodeBody cmd
  | .collect expid target deadline, s => s.collectBody expid target deadline
  | .decodeAuto, s => s.decodeAutoBody
  | .decodeFw, s => s.decodeFwBody
  | .decodeMode, s => s.decodeModeBody
  | .decodeData, s => s.decodeDataBody
  | .rdreg reg, s => { s with rdata := s.reg reg }

/-- Every operation is the issue of its body. -/
theorem exec_eq_issue (i : Instr) (s : State) : exec i s = issue i (bodyOf i) s := by
  cases i <;> rfl

/-! ### end_check -/

/-- Everything end_check can do (R162). -/
theorem State.endCheck_cases (s : State) :
    (s.rxBusy = true ∧ s.target.toNat ≤ s.rxlen.toNat ∧ s.endCheck = { s with rxBusy := false, doneCause := .full }) ∨
    (s.rxBusy = true ∧ s.rxlen.toNat < s.target.toNat ∧ s.deadline.toNat ≤ s.elapsed.toNat ∧
      s.endCheck = { s with rxBusy := false, doneCause := .deadline }) ∨
    ((s.rxBusy = true → s.rxlen.toNat < s.target.toNat ∧ s.elapsed.toNat < s.deadline.toNat) ∧ s.endCheck = s) := by
  unfold State.endCheck
  split
  · rename_i h; exact .inl ⟨h.1, h.2, rfl⟩
  · rename_i h
    split
    · rename_i h'; exact .inr (.inl ⟨h'.1, by have := h'.1; simp_all, h'.2, rfl⟩)
    · rename_i h'
      exact .inr (.inr ⟨fun hb => ⟨by simp_all, by simp_all⟩, rfl⟩)

/-- end_check does nothing to a collection that is neither full nor out of time (R162). -/
theorem State.endCheck_of_running {s : State} (h1 : s.rxlen.toNat < s.target.toNat)
    (h2 : s.elapsed.toNat < s.deadline.toNat) : s.endCheck = s := by
  unfold State.endCheck
  rw [if_neg (by omega), if_neg (by omega)]

/-- end_check does nothing without a collection (R162). -/
theorem State.endCheck_of_idle {s : State} (h : s.rxBusy = false) : s.endCheck = s := by
  simp [State.endCheck, h]

/-! ### The events of the surroundings -/

/-- Everything an RX can do: nothing, or the byte is taken and appended, and then checked (R165). -/
theorem State.rxEvent_cases (s : State) :
    ((s.rxBusy = false ∨ s.rxLine = []) ∧ s.rxEvent = s) ∨
    ∃ b rest, s.rxBusy = true ∧ s.rxLine = b :: rest ∧
      s.rxEvent = State.rxByte b { s with rxLine := rest } := by
  unfold State.rxEvent State.rxReady
  cases hl : s.rxLine with
  | nil => exact .inl ⟨.inr rfl, by simp⟩
  | cons b rest =>
    cases hb : s.rxBusy with
    | false => exact .inl ⟨.inl rfl, by simp⟩
    | true => exact .inr ⟨b, rest, rfl, rfl, by simp⟩

/-- Everything the resynchronisation can do (R165, R166). -/
theorem State.resync_cases (s : State) :
    (2 ≤ s.rxlen.toNat ∧ ¬ (s.rxbuf[0] = 0xAA ∧ s.rxbuf[1] = s.expid) ∧ s.resync = s.discard) ∨
    ((2 ≤ s.rxlen.toNat → s.rxbuf[0] = 0xAA ∧ s.rxbuf[1] = s.expid) ∧ s.resync = s) := by
  unfold State.resync
  cases hs : syncOk s.rxbuf s.expid with
  | true => exact .inr ⟨fun _ => (syncOk_iff _ _).1 hs, by simp⟩
  | false =>
    have hn : ¬ (s.rxbuf[0] = 0xAA ∧ s.rxbuf[1] = s.expid) := fun h => by
      rw [(syncOk_iff _ _).2 h] at hs; cases hs
    by_cases hl : 2 ≤ s.rxlen.toNat
    · exact .inl ⟨hl, hn, by simp [hl]⟩
    · exact .inr ⟨fun h => absurd h hl, by simp [hl]⟩

/-- Everything a TX can do (R127). -/
theorem State.txEvent_cases (s : State) :
    (19 ≤ s.txptr.toNat ∧ s.txEvent = s) ∨
    (s.txptr.toNat < 19 ∧ s.txEvent = { s with txptr := s.txptr + 1, txLine := s.txLine ++ [s.txData] }) := by
  unfold State.txEvent State.txValid
  cases h : s.txBusy with
  | false => exact .inl ⟨(State.txBusy_false_iff s).1 h, by simp⟩
  | true => exact .inr ⟨(State.txBusy_iff s).1 h, by simp⟩

/-- Everything a TICK can do (R168). -/
theorem State.tickEvent_cases (s : State) :
    (s.rxBusy = false ∧ s.tickEvent = s) ∨
    (s.rxBusy = true ∧ s.tickEvent = State.endCheck { s with elapsed := s.elapsed + 1 }) := by
  unfold State.tickEvent
  cases h : s.rxBusy with
  | false => exact .inl ⟨rfl, by simp⟩
  | true => exact .inr ⟨rfl, by simp⟩

/-! ### The bodies of the operations -/

/-- Everything ENCODE's body can do (R122). -/
theorem State.encodeBody_cases (cmd : BitVec 3) (s : State) :
    (∃ h : cmd.toNat < 5,
      s.encodeBody cmd =
        { s with txbuf := frame s.config.catalog[cmd.toNat], txptr := 0, lastcmd := ⟨cmd.toNat, h⟩,
                 lastcmdValid := true, err := .ok }) ∨
    (5 ≤ cmd.toNat ∧ s.encodeBody cmd = s.raise .unknownCmd) := by
  unfold State.encodeBody
  split
  · rename_i h; exact .inl ⟨h, rfl⟩
  · rename_i h; exact .inr ⟨Nat.le_of_not_lt h, rfl⟩

/-- The reader a COLLECT starts, before its end check (R160). -/
def State.startReader (expid : Byte) (target : BitVec 4) (deadline : BitVec deadlineW) (s : State) : State :=
  { s with
    rxbuf := emptyRxbuf, rxlen := 0, expid := expid, target := target, deadline := deadline, elapsed := 0,
    doneCause := .none, resyncCnt := 0, rxBusy := true, err := .ok }

/-- Everything COLLECT's body can do (R160, R161). -/
theorem State.collectBody_cases (expid : Byte) (target : BitVec 4) (deadline : BitVec deadlineW) (s : State) :
    (target.toNat ≤ 10 ∧ s.collectBody expid target deadline = (s.startReader expid target deadline).endCheck) ∨
    (11 ≤ target.toNat ∧ s.collectBody expid target deadline = s.raise .badTarget) := by
  unfold State.collectBody
  split
  · rename_i h; exact .inr ⟨h, rfl⟩
  · rename_i h; exact .inl ⟨Nat.le_of_not_lt h, rfl⟩

/-- Everything a decoder can do: its result, or a failing reason over cleared results (R190). -/
theorem State.decodeWith_cases (check : State → ResFail) (result : State → State) (s : State) :
    (check s.clearResults = .none ∧ s.decodeWith check result = result s.clearResults) ∨
    (check s.clearResults ≠ .none ∧
      s.decodeWith check result = { s.clearResults with resFail := check s.clearResults }) := by
  unfold State.decodeWith
  cases h : check s.clearResults <;> simp

/-- The checks read only RXLEN and RXBUF, which clear_results keeps (R149, R150). -/
@[simp] theorem State.lenCheck_clearResults (s : State) : s.clearResults.lenCheck = s.lenCheck := rfl

@[simp] theorem State.dataCheck_clearResults (s : State) : s.clearResults.dataCheck = s.dataCheck := rfl

/-- len_check passes exactly at length 10 (R150). -/
theorem State.lenCheck_eq_none_iff (s : State) : s.lenCheck = .none ↔ s.rxlen.toNat = 10 := by
  unfold State.lenCheck
  split <;> simp_all

/-- data_check passes exactly on a data-report frame (R149). -/
theorem State.dataCheck_eq_none_iff (s : State) :
    s.dataCheck = .none ↔
      s.rxlen.toNat = 10 ∧ s.rxbuf[0] = 0xAA ∧ s.rxbuf[9] = 0xAB ∧ s.rxbuf[1] = 0xC0 := by
  unfold State.dataCheck
  repeat' split
  all_goals simp_all

/-- Everything DECODE.AUTO's body can do (R200, R201). -/
theorem State.decodeAutoBody_cases (s : State) :
    (s.lastcmdValid = false ∧ s.decodeAutoBody = s.raise .noCmd) ∨
    (s.lastcmdValid = true ∧
      (s.decodeAutoBody = s.decodeFwBody ∨ s.decodeAutoBody = s.decodeModeBody ∨
        s.decodeAutoBody = s.decodeDataBody)) := by
  unfold State.decodeAutoBody
  cases h : s.lastcmdValid with
  | false => exact .inl ⟨rfl, by simp⟩
  | true =>
    refine .inr ⟨rfl, ?_⟩
    cases hc : s.config.catalog[s.lastcmd].cls <;> simp

/-! ### One step -/

/-- Everything a step that answers next has done: the configuration is well formed, and the next event is applied to
the state with the event taken off the schedule (R7, R13). -/
theorem step_cases {s t : State} (h : step s = .next t) :
    s.config.wf = true ∧
      ((s.sched = [] ∧ t = s) ∨
        ∃ e rest, s.sched = e :: rest ∧ applyEvent e { s with sched := rest } = .next t) := by
  unfold step State.nextEvent at h
  cases hw : s.config.wf with
  | false => simp [hw] at h
  | true =>
    refine ⟨rfl, ?_⟩
    cases hs : s.sched with
    | nil => simp [hw, hs, applyEvent] at h; exact .inl ⟨rfl, h.symm⟩
    | cons e rest => simp [hw, hs] at h; exact .inr ⟨e, rest, rfl, h⟩

/-- Everything an applied event can do: ILLEGAL_OP, BUSY, an operation's body, or one of the five other events (R13,
R100). -/
theorem applyEvent_cases {e : Event} {s t : State} (h : applyEvent e s = .next t) :
    (∃ w, e = .op w ∧
      ((∃ x, decode w = .error x ∧ t = s.raise .illegalOp) ∨
        ∃ i, decode w = .ok i ∧
          ((s.refusedBusy i = true ∧ t = s.raise .busy) ∨ (s.refusedBusy i = false ∧ t = bodyOf i s)))) ∨
    (e = .rx ∧ t = s.rxEvent) ∨ (e = .tx ∧ t = s.txEvent) ∨ (e = .tick ∧ t = s.tickEvent) ∨
    (e = .reset ∧ t = s.resetEvent) ∨ (e = .idle ∧ t = s) := by
  cases e with
  | op w =>
    refine .inl ⟨w, rfl, ?_⟩
    unfold applyEvent opEvent at h
    cases hd : decode w with
    | error x => simp [hd] at h; exact .inl ⟨x, rfl, h.symm⟩
    | ok i => simp only [hd] at h; rw [exec_eq_issue] at h; exact .inr ⟨i, rfl, issue_cases h⟩
  | rx => simp [applyEvent] at h; simp [h]
  | tx => simp [applyEvent] at h; simp [h]
  | tick => simp [applyEvent] at h; simp [h]
  | reset => simp [applyEvent] at h; simp [h]
  | idle => simp [applyEvent] at h; simp [h]

/-! ### Issued operations and runs -/

/-- What every operation does: BUSY, or its body; it always goes on (R100). -/
theorem exec_eq_next (i : Instr) (s : State) :
    exec i s = .next (if s.refusedBusy i then s.raise .busy else bodyOf i s) := by
  rw [exec_eq_issue]; rfl

/-- An operation that answers next has raised BUSY or performed its body (R100). -/
theorem exec_cases {i : Instr} {s t : State} (h : exec i s = .next t) :
    (s.refusedBusy i = true ∧ t = s.raise .busy) ∨ (s.refusedBusy i = false ∧ t = bodyOf i s) :=
  issue_cases (exec_eq_issue i s ▸ h)

/-- A step with an event next, in a well-formed configuration (R13). -/
theorem step_cons {s : State} {e : Event} {rest : List Event} (hw : s.config.wf = true) (hs : s.sched = e :: rest) :
    step s = applyEvent e { s with sched := rest } := by
  simp [step, hw, State.nextEvent, hs]

/-- A step with nothing scheduled, in a well-formed configuration (R13, log 1). -/
theorem step_nil {s : State} (hw : s.config.wf = true) (hs : s.sched = []) : step s = .next s := by
  simp [step, hw, State.nextEvent, hs, applyEvent]

/-- A clock cycle in a well-formed configuration is its events (R14). -/
theorem clockCycle_of_wf {s : State} (i : Inputs) (hw : s.config.wf = true) :
    clockCycle i s = applyEvents (s.cycleEvents i) s := by
  simp [clockCycle, hw]

/-- The first of some events, and then the rest. -/
theorem applyEvents_cons {e : Event} {s t : State} (es : List Event) (h : applyEvent e s = .next t) :
    applyEvents (e :: es) s = applyEvents es t := by
  simp [applyEvents, h]

/-- No steps. -/
theorem run_zero (s : State) : run 0 s = .next s := rfl

/-- One more step at the front of a run. -/
theorem run_succ {s t : State} (n : Nat) (h : step s = .next t) : run (n + 1) s = run n t := by
  simp only [run, Host.Core.run]
  rw [show Sys2Proof.core.step s = .next t from h]

end Sys2Proof.Machine
end

