-- ==== Sys2Proof/Laws/Words.lean ====
section
/-! SUPPORT. Words as numbers: concatenation and fields turned into arithmetic, and the number of every operation's word
(R83 to R88). -/

namespace Sys2Proof

/-- `{x, y}` as a number (R9). -/
theorem append_toNat {v w : Nat} (x : BitVec v) (y : BitVec w) : (x ++ y).toNat = x.toNat * 2 ^ w + y.toNat := by
  rw [BitVec.toNat_append, ← Nat.shiftLeft_add_eq_or_of_lt y.isLt, Nat.shiftLeft_eq]

/-- A field as a number (R9). -/
theorem field_toNat {v : Nat} (x : BitVec v) (start len : Nat) :
    (x.extractLsb' start len).toNat = x.toNat / 2 ^ start % 2 ^ len := by
  rw [BitVec.extractLsb'_toNat, Nat.shiftRight_eq_div_pow]

/-- A register number names the register it is the number of (R40). -/
@[simp] theorem Reg.ofNumber_number (r : Reg) : Reg.ofNumber r.number = r := by cases r <;> rfl

/-- Every 4-bit number is the number of the register it names (R40, R69). -/
@[simp] theorem Reg.number_ofNumber (n : BitVec 4) : (Reg.ofNumber n).number = n := by revert n; decide

theorem encode_encode_toNat (cmd : BitVec 3) : (encode (.encode cmd)).toNat = cmd.toNat * 16 + 1 := by
  simp only [encode, append_toNat]
  simp

theorem encode_collect_toNat (expid : Byte) (target : BitVec 4) (deadline : BitVec deadlineW) :
    (encode (.collect expid target deadline)).toNat =
      deadline.toNat * 2 ^ 20 + target.toNat * 2 ^ 16 + expid.toNat * 2 ^ 8 + 2 := by
  simp only [encode, append_toNat]
  simp
  omega

theorem encode_rdreg_toNat (reg : Reg) : (encode (.rdreg reg)).toNat = reg.number.toNat * 16 + 4 := by
  simp only [encode, append_toNat]
  simp

end Sys2Proof
end

