-- ==== Sys2Proof/Laws/PerInstr.lean ====
section
/-! SUPPORT. A statement about every operation as syntax, one lemma per constructor of Instr. -/

namespace Sys2Proof.Laws.TableRow

/-- The word of an operation lies in its row of the opcode map (R89). -/
def Statement (i : Instr) : Prop := encode i &&& i.row.mask = i.row.pattern

theorem nop : Statement .nop := by unfold Statement; decide

theorem encode (cmd : BitVec 3) : Statement (.encode cmd) := by unfold Statement; revert cmd; decide

theorem collect (expid : Byte) (target : BitVec 4) (deadline : BitVec deadlineW) :
    Statement (.collect expid target deadline) := by
  have h : (Sys2Proof.encode (.collect expid target deadline)).toNat % 2 ^ 8 = 2 := by
    rw [encode_collect_toNat]
    omega
  apply BitVec.eq_of_toNat_eq
  rw [BitVec.toNat_and]
  exact (Nat.and_two_pow_sub_one_eq_mod _ 8).trans h

theorem decodeAuto : Statement .decodeAuto := by unfold Statement; decide

theorem decodeFw : Statement .decodeFw := by unfold Statement; decide

theorem decodeMode : Statement .decodeMode := by unfold Statement; decide

theorem decodeData : Statement .decodeData := by unfold Statement; decide

theorem rdreg (reg : Reg) : Statement (.rdreg reg) := by unfold Statement; cases reg <;> decide

end Sys2Proof.Laws.TableRow
end

