-- ==== Sys2Proof/Tests/Slice0.lean ====
section
/-! SUPPORT. The model's own tests: words written out from the encodings of 30_encoding.md, one-event vectors of
95_test_vectors.md (their ids are named), the WellFormed smoke, and a witness for every statement that has hypotheses. -/

namespace Sys2Proof.Machine

/-! ### Small states -/

/-- The next state, when there is one. -/
def after (o : Host.Outcome State Fault Refusal) : Option State :=
  match o with
  | .next t => some t
  | .fault _ => none
  | .refused _ => none

/-- Some registers after a host operation. -/
def regsAfter (w : Word) (s : State) (regs : List Reg) : Option (List Word) :=
  (after (opEvent w s)).map fun t => regs.map t.reg

/-- Some registers after another event. -/
def regsAfterEvent (e : Event) (s : State) (regs : List Reg) : Option (List Word) :=
  (after (applyEvent e s)).map fun t => regs.map t.reg

/-- GOOD of 95_test_vectors.md. -/
def good : Vector Byte 10 := #v[0xAA, 0xC0, 0x96, 0x00, 0x20, 0x03, 0x00, 0x00, 0xB9, 0xAB]

/-- A block that has collected a buffer of ten bytes. -/
def holding (buf : Vector Byte 10) : State :=
  { State.reset with rxbuf := buf, rxlen := 10, target := 10, expid := buf[1], deadline := 1000, doneCause := .full }

/-- V-R2: collecting ten bytes with id C0, deadline 1000. -/
def collecting : State := { State.reset with expid := 0xC0, target := 10, deadline := 1000, rxBusy := true }

/-- Collecting, with one byte held. -/
def oneByte (b : Byte) : State :=
  { collecting with rxbuf := #v[b, 0, 0, 0, 0, 0, 0, 0, 0, 0], rxlen := 1, rxLine := [0xC0] }

/-- Collecting, with the first two bytes of GOOD held. -/
def twoBytes : State :=
  { collecting with rxbuf := #v[0xAA, 0xC0, 0, 0, 0, 0, 0, 0, 0, 0], rxlen := 2, rxLine := [0x96] }

/-- V-R20 before its last byte: nine bytes of GOOD, nine of ten ticks. -/
def nineBytes : State :=
  { collecting with
    rxbuf := #v[0xAA, 0xC0, 0x96, 0x00, 0x20, 0x03, 0x00, 0x00, 0xB9, 0], rxlen := 9, deadline := 10, elapsed := 9,
    rxLine := [0xAB] }

/-- Right after V-E4: the frame of query_data is being sent. -/
def sending : State :=
  { State.reset with
    txbuf := #v[0xAA, 0xB4, 0x04, 0, 0, 0, 0, 0, 0, 0, 0, 0, 0, 0, 0, 0xFF, 0xFF, 0x02, 0xAB], txptr := 0, lastcmd := 3,
    lastcmdValid := true }

/-- V-E4 with one byte left to send. -/
def lastByte : State := { sending with txptr := 18 }

/-! ### Words written out from the formats -/

theorem test_decode_nop : decode 0b00000000000000000000000000000000 = .ok .nop := by decide

theorem test_decode_encode : decode 0b00000000000000000000000001000001 = .ok (.encode 4) := by decide

theorem test_decode_collect : decode 0b00111110100010101100000000000010 = .ok (.collect 0xC0 10 1000) := by decide

theorem test_decode_decodes :
    decode 0b00000000000000000000000000000011 = .ok .decodeAuto ∧
      decode 0b00000000000000000000000000010011 = .ok .decodeFw ∧
      decode 0b00000000000000000000000000100011 = .ok .decodeMode ∧
      decode 0b00000000000000000000000000110011 = .ok .decodeData := by decide

theorem test_decode_rdreg :
    decode 0b00000000000000000000000010100100 = .ok (.rdreg .txinfo) ∧
      decode 0b00000000000000000000000011110100 = .ok (.rdreg .txb4) := by decide

/-- V-I2 to V-I9: the reserved bits and the free opcodes. -/
theorem test_decode_illegal :
    decode 0x00000010 = .error (.reservedField 0) ∧ decode 0x00000181 = .error (.reservedField 1) ∧
      decode 0x3E8AC012 = .error (.reservedField 2) ∧ decode 0x00000043 = .error (.reservedField 3) ∧
      decode 0x80000003 = .error (.reservedField 3) ∧ decode 0x00000104 = .error (.reservedField 4) ∧
      decode 0x00000005 = .error (.opcode 5) ∧ decode 0x0000000F = .error (.opcode 15) := by decide

theorem test_encode_words :
    encode (.encode 3) = 0x00000031 ∧ encode (.collect 0xC0 10 1000) = 0x3E8AC002 ∧ encode .decodeData = 0x00000033 ∧
      encode (.rdreg .pm) = 0x00000084 := by decide

theorem test_table_words :
    decodeTableWord 32 0x31 = some (.encode 3) ∧ decodeTableWord 8 0x104 = some (.rdreg .status) ∧
      decodeTableWord 40 0x100000000 = none := by decide

/-! ### WellFormed: each check refuses an ill-formed term -/

theorem test_wf_default : Config.default.wf = true := by decide

theorem test_wf_refuses_header : { Config.default with
    catalog := Config.default.catalog.set 4 { Catalog.default[4] with header := #v[0xAB, 0, 0, 0, 0] } }.wf = false := by
  decide

theorem test_wf_refuses_offsets :
    { Config.default with fwDayOff := 1 }.wf = false ∧ { Config.default with fwMonthOff := 9 }.wf = false ∧
      { Config.default with fwYearOff := 0 }.wf = false ∧ { Config.default with fwYearOff := 8 }.wf = true := by decide

theorem test_wf_refuses_period : { Config.default with tickPeriodNs := 0 }.wf = false := by decide

theorem test_wf_refuses_lines :
    (AsmLine.encode (.code 8)).wf = false ∧ (AsmLine.collect 256 10 0).wf = false ∧
      (AsmLine.collect 0 16 0).wf = false ∧ (AsmLine.collect 0 10 4096).wf = false ∧
      (AsmLine.rdreg (.number 16)).wf = false ∧ (AsmLine.collectFor (.code 5) 10).wf = false ∧
      (AsmLine.collectFor (.name 3) 4096).wf = false := by decide

/-- The step refuses an ill-formed configuration (R7). -/
theorem test_step_refuses_ill_formed :
    step { State.reset with config := { Config.default with tickPeriodNs := 0 } } = .refused .illFormedConfig := rfl

/-- A clock cycle refuses it too, here with header[0] = 0xAB and an ENCODE of that entry (R7). -/
theorem test_cycle_refuses_ill_formed :
    clockCycle ⟨false, true, 0x41, false, false, false⟩ { State.reset with config := { Config.default with
      catalog := Config.default.catalog.set 4 { Catalog.default[4] with header := #v[0xAB, 0, 0, 0, 0] } } } =
      .refused .illFormedConfig := rfl

/-! ### The assembler (the examples of R93, the forms of R94) -/

theorem test_assemble_encode_name : assembleText Config.default "ENCODE query_data" = some 0x00000031 := by decide

theorem test_assemble_collect : assembleText Config.default "COLLECT 0xC0, 10, 1000 ; one frame" = some 0x3E8AC002 := by
  decide

theorem test_assemble_rdreg : assembleText Config.default "RDREG PM" = some 0x00000084 := by decide

theorem test_assemble_pseudo :
    assembleText Config.default "COLLECT.FOR query_data, 1000" = some 0x3E8AC002 ∧
      assembleText Config.default "DECODE" = some 0x00000003 ∧
      assembleText Config.default "READ STATUS" = some 0x00000004 := by decide

theorem test_assemble_refuses :
    assembleText Config.default "COLLECT 0xC0, 16, 1000" = none ∧ assembleText Config.default "ENCODE 8" = none ∧
      assembleText Config.default "; nothing" = none := by decide

/-! ### The instructions -/

/-- V-I11: NOP keeps ERR. -/
theorem test_nop_keeps_err :
    regsAfter 0x00000000 { State.reset with err := .unknownCmd } [.status] = some [0x00000030] := by decide

/-- V-E4: the frame of query_data. -/
theorem test_encode_query_data :
    regsAfter 0x00000031 State.reset [.status, .txinfo, .txb0, .txb1, .txb2, .txb3, .txb4] =
      some [0x00000702, 0x0000C020, 0x0004B4AA, 0x00000000, 0x00000000, 0xFF000000, 0x00AB02FF] := by decide

/-- V-E6: an unknown command. -/
theorem test_encode_unknown : regsAfter 0x00000051 State.reset [.status, .txinfo] = some [0x00000030, 0x00000013] := by
  decide

/-- V-R2: a collection starts. -/
theorem test_collect_starts :
    regsAfter 0x3E8AC002 State.reset [.status, .rxinfo, .timer] = some [0x00000001, 0x0000C0A0, 0x000003E8] := by decide

/-- V-R11, V-R13, V-R14, V-R17: a zero deadline, a zero target, both, and a target of 11. -/
theorem test_collect_corners :
    regsAfter 0x000AC002 State.reset [.status, .timer] = some [0x00000008, 0x00000000] ∧
      regsAfter 0x0640C002 State.reset [.status, .timer] = some [0x00000004, 0x00000064] ∧
      regsAfter 0x0000C002 State.reset [.status] = some [0x00000004] ∧
      regsAfter 0x064BC002 State.reset [.status, .rxinfo] = some [0x00000040, 0x00000000] := by decide

/-- V-D26, V-D27: dispatch follows the last command, whatever the frame is. -/
theorem test_decodeAuto_dispatch :
    regsAfter 0x00000003 { holding good with lastcmd := 4, lastcmdValid := true, doneCause := .none }
        [.status, .result, .fwdate] = some [0x00000900, 0x00000001, 0x00002003] ∧
      regsAfter 0x00000003
        { holding #v[0xAA, 0xC5, 0x07, 0x0F, 0x07, 0x0A, 0xA1, 0x60, 0x28, 0xAB] with
          lastcmd := 3, lastcmdValid := true, doneCause := .none }
        [.status, .result] = some [0x00000700, 0x00000010] := by decide

/-- V-D30: NO_CMD does not clear the results. -/
theorem test_decodeAuto_no_cmd :
    regsAfter 0x00000003
      { holding good with doneCause := .none, resKind := .data, pm25Raw := 0x0096, pm10Raw := 0x0320 }
      [.status, .result, .pm] = some [0x00000050, 0x00000003, 0x03200096] := by decide

/-- V-D18. -/
theorem test_decodeFw_date :
    regsAfter 0x00000013 (holding #v[0xAA, 0xC5, 0x07, 0x0F, 0x07, 0x0A, 0xA1, 0x60, 0x28, 0xAB]) [.result, .fwdate] =
      some [0x00000001, 0x000F070A] := by decide

/-- V-D19, with results left by an earlier decode. -/
theorem test_decodeFw_short :
    regsAfter 0x00000013 { nineBytes with rxBusy := false, doneCause := .deadline, fwDay := 0x1F, resKind := .fw }
      [.result, .fwdate] = some [0x00000004, 0x00000000] := by decide

/-- V-D12, V-D14. -/
theorem test_decodeMode_values :
    regsAfter 0x00000023 (holding #v[0xAA, 0xC5, 0x02, 0x00, 0x01, 0x00, 0xA1, 0x60, 0x04, 0xAB]) [.result] =
        some [0x00000022] ∧
      regsAfter 0x00000023 (holding #v[0xAA, 0xC5, 0x02, 0x00, 0xFF, 0x00, 0xA1, 0x60, 0x02, 0xAB]) [.result] =
        some [0x00000042] := by decide

/-- V-D15: the length only is checked. -/
theorem test_decodeMode_length_only :
    regsAfter 0x00000023 (holding #v[0, 0, 0, 0, 0x01, 0, 0, 0, 0, 0]) [.result] = some [0x00000022] := by decide

/-- V-D1, V-D2. -/
theorem test_decodeData_values :
    regsAfter 0x00000033 (holding good) [.result, .pm] = some [0x00000003, 0x03200096] ∧
      regsAfter 0x00000033 (holding #v[0xAA, 0xC0, 0xFF, 0xFF, 0x00, 0x80, 0x00, 0x00, 0x7E, 0xAB]) [.result, .pm] =
        some [0x00000003, 0x8000FFFF] := by decide

/-- V-D6, V-D8, V-D9, V-D10: LEN, ID, TAIL, and HEAD reported first. -/
theorem test_decodeData_fails :
    regsAfter 0x00000033 State.reset [.result] = some [0x00000004] ∧
      regsAfter 0x00000033 (holding (good.set 1 0xC5)) [.result] = some [0x00000010] ∧
      regsAfter 0x00000033 (holding (good.set 9 0xAA)) [.result] = some [0x0000000C] ∧
      regsAfter 0x00000033 (holding #v[0x00, 0xC5, 0x96, 0x00, 0x20, 0x03, 0x00, 0x00, 0xB9, 0x00]) [.result] =
        some [0x00000008] := by decide

/-- V-I10: RDREG keeps ERR, and reads it. -/
theorem test_rdreg_status :
    (after (opEvent 0x00000004 { State.reset with err := .unknownCmd })).map (fun t => (t.rdata, t.err)) =
      some (0x00000030, .unknownCmd) := by decide

/-- P1: the two PM values in one read. -/
theorem test_rdreg_pm :
    (after (opEvent 0x00000084 { State.reset with pm25Raw := 0x0096, pm10Raw := 0x0320 })).map State.rdata =
      some 0x03200096 := by decide

/-! ### Errors: V-I5, V-I13, V-I16 to V-I19, V-I21, V-I22 -/

theorem test_illegal_changes_err_only :
    regsAfter 0x00000181 State.reset [.status, .txinfo] = some [0x00000010, 0x00000013] := by decide

theorem test_busy_while_collecting :
    regsAfter 0x00000031 collecting [.status, .txinfo] = some [0x00000021, 0x00000013] ∧
      regsAfter 0x00000005 collecting [.status] = some [0x00000011] ∧
      regsAfter 0x00000051 collecting [.status] = some [0x00000021] ∧
      regsAfter 0x00000181 collecting [.status] = some [0x00000011] := by decide

theorem test_busy_while_sending :
    regsAfter 0x00000031 sending [.status, .txinfo] = some [0x00000722, 0x0000C020] ∧
      regsAfter 0x064BC002 sending [.status] = some [0x00000722] ∧
      regsAfter 0x00000033 sending [.status, .result] = some [0x00000702, 0x00000004] := by decide

/-! ### The other events -/

/-- V-R1: the last byte of GOOD. -/
theorem test_rx_full :
    regsAfterEvent .rx { nineBytes with deadline := 1000, elapsed := 0 } [.status, .rxinfo, .rxb0, .rxb1, .rxb2, .vstat] =
      some [0x00000004, 0x0000C0AA, 0x0096C0AA, 0x00000320, 0x0000ABB9, 0x0000003F] := by decide

/-- V-R7: the pair AA AA fails against EXPID C0, and both bytes go. -/
theorem test_rx_discard :
    regsAfterEvent .rx { oneByte 0xAA with rxLine := [0xAA] } [.status, .rxinfo, .rxb0] =
      some [0x00000001, 0x0001C0A0, 0x00000000] := by decide

/-- V-E9, V-E10: the last byte, and a TX with nothing left. -/
theorem test_tx_last :
    (after (applyEvent .tx lastByte)).map (fun t => (t.reg .status, t.reg .txinfo, t.txLine)) =
        some (0x00000700, 0x0000C033, [0xAB]) ∧
      (after (applyEvent .tx { lastByte with txptr := 19 })).map State.txLine = some [] := by decide

/-- V-R12: ticks 4 and 5 of 5. -/
theorem test_tick_deadline :
    regsAfterEvent .tick { twoBytes with deadline := 5, elapsed := 3 } [.status, .timer] =
        some [0x00000001, 0x00040005] ∧
      regsAfterEvent .tick { twoBytes with deadline := 5, elapsed := 4 } [.status, .rxinfo, .timer] =
        some [0x00000008, 0x0000C0A2, 0x00050005] := by decide

/-- R58: TXINFO is 0x13 after RESET, and the transport keeps its bytes (R252). -/
theorem test_reset_during_collection :
    (after (applyEvent .reset nineBytes)).map (fun t => (t.reg .status, t.reg .txinfo, t.rxLine)) =
      some (0x00000000, 0x00000013, [0xAB]) := by decide

/-- V-R20 and V-R21 in one cycle: the byte is applied before the tick. -/
theorem test_cycle_rx_before_tick :
    (after (clockCycle ⟨false, false, 0, true, false, true⟩ nineBytes)).map (fun t => (t.reg .status, t.reg .timer)) =
      some (0x00000004, 0x0009000A) := by decide

/-- V-V2, V-V3, V-V5, V-V9: the validator's predicates. -/
theorem test_vstat :
    (holding #v[0xAA, 0xC0, 0x96, 0x00, 0x20, 0x03, 0x12, 0x34, 0x00, 0xAB]).reg .vstat = 0x0000001F ∧
      nineBytes.reg .vstat = 0x00000006 ∧ (holding (good.set 9 0xAA)).reg .vstat = 0x00000027 ∧
      (oneByte 0xAB).reg .vstat = 0x00000000 := by decide

/-- V-D2, V-D3: raw -1, -32768 and 32767. -/
theorem test_pm_value : pmValue 0xFFFF = -1 ∧ pmValue 0x8000 = -32768 ∧ pmValue 0x7FFF = 32767 := by decide

/-- P1's first line through the host's poll cycle: it encodes, and then waits for the frame to go out (R263). -/
theorem test_poll_encodes :
    (pollStep ⟨3, 1000, 0, 0⟩ PollState.start State.reset).1 = some (.encode 3) ∧
      (pollStep ⟨3, 1000, 0, 0⟩ ⟨.awaitingSettle, 0, false, false⟩ sending).1 = none ∧
      (pollStep ⟨3, 1000, 0, 0⟩ ⟨.awaitingSettle, 0, false, false⟩ { sending with txptr := 19 }).1 =
        some (.collect 0xC0 10 1000) := by decide

/-- R266 and log 15: UNKNOWN_CMD and a command without a catalog entry stop the session, and an ENCODE that raised BUSY
makes the exchange Failed. -/
theorem test_poll_refused_encode :
    pollStep ⟨5, 1000, 0, 0⟩ ⟨.awaitingSettle, 0, false, false⟩ { State.reset with err := .unknownCmd } =
        (none, ⟨.awaitingSettle, 0, false, true⟩) ∧
      pollStep ⟨5, 1000, 0, 0⟩ ⟨.awaitingSettle, 0, false, false⟩ { State.reset with err := .busy } =
        (none, ⟨.awaitingSettle, 0, false, true⟩) ∧
      pollStep ⟨3, 1000, 0, 0⟩ ⟨.awaitingSettle, 0, false, false⟩ { State.reset with err := .busy } =
        (none, ⟨.failed, 0, false, false⟩) := by decide

/-! ### Witnesses: states and operands that meet a statement's hypotheses -/

theorem test_inv_reset : State.reset.Inv := by constructor <;> decide

theorem test_inv_collecting : collecting.Inv := by constructor <;> decide

theorem test_inv_oneByte : (oneByte 0xAA).Inv ∧ (oneByte 0x55).Inv := by constructor <;> constructor <;> decide

theorem test_inv_twoBytes : twoBytes.Inv := by constructor <;> decide

theorem test_inv_nineBytes : nineBytes.Inv := by constructor <;> decide

theorem test_inv_holding : (holding good).Inv := by constructor <;> decide

theorem test_inv_sending : sending.Inv ∧ lastByte.Inv := by constructor <;> constructor <;> decide

theorem test_witness_EncodeOfDecodeIsTheWord : decode 0xFFFAFF02 = .ok (.collect 0xFF 10 4095) := by decide

theorem test_witness_OpcodeMapSelectsTheDecodedForm :
    Instr.row (.encode 0) ∈ opcodeMap ∧ (0x00000071 : Word) &&& (Instr.row (.encode 0)).mask = (Instr.row (.encode 0)).pattern ∧
      5 ≤ ((0x00000005 : Word).extractLsb' 0 4).toNat ∧ 5 ≤ ((0xFFFFFFFF : Word).extractLsb' 0 4).toNat := by decide

theorem test_witness_OperandsAreTheWordsBits :
    decode 0x00000071 = .ok (.encode 7) ∧ decode 0xFFFFFF02 = .ok (.collect 0xFF 15 4095) ∧
      decode 0x000000F4 = .ok (.rdreg .txb4) := by decide

theorem test_witness_IllegalWordsRaiseIllegalOp :
    5 ≤ ((0x00000005 : Word).extractLsb' 0 4).toNat ∧
      ((0x80000000 : Word).extractLsb' 0 4 = 0x0 ∧ (0x80000000 : Word).extractLsb' 4 28 ≠ 0) ∧
      ((0x00000081 : Word).extractLsb' 0 4 = 0x1 ∧ (0x00000081 : Word).extractLsb' 7 25 ≠ 0) ∧
      ((0x00000082 : Word).extractLsb' 0 4 = 0x2 ∧ (0x00000082 : Word).extractLsb' 4 4 ≠ 0) ∧
      ((0x00000043 : Word).extractLsb' 0 4 = 0x3 ∧ (0x00000043 : Word).extractLsb' 6 26 ≠ 0) ∧
      ((0x00000104 : Word).extractLsb' 0 4 = 0x4 ∧ (0x00000104 : Word).extractLsb' 8 24 ≠ 0) := by decide

theorem test_witness_legal_words :
    ((0x00000000 : Word).extractLsb' 0 4 = 0x0 ∧ (0x00000000 : Word).extractLsb' 4 28 = 0) ∧
      ((0x00000071 : Word).extractLsb' 0 4 = 0x1 ∧ (0x00000071 : Word).extractLsb' 7 25 = 0) ∧
      ((0xFFFFFF02 : Word).extractLsb' 0 4 = 0x2 ∧ (0xFFFFFF02 : Word).extractLsb' 4 4 = 0) ∧
      ((0x00000033 : Word).extractLsb' 0 4 = 0x3 ∧ (0x00000033 : Word).extractLsb' 6 26 = 0) ∧
      ((0x000000F4 : Word).extractLsb' 0 4 = 0x4 ∧ (0x000000F4 : Word).extractLsb' 8 24 = 0) := by decide

theorem test_witness_StepRunsTheDecodedOperation :
    ({ State.reset with sched := [.op 0x00000031] }).config.wf = true ∧ decode 0x00000031 = .ok (.encode 3) ∧
      decode 0x00000005 = .error (.opcode 5) ∧
      (after (step (State.reset.withFetchWord 32 0x31))).map State.lastcmd = some 3 := by decide

theorem test_witness_StepAppliesTheScheduledEvent :
    ∀ e ∈ [Event.rx, .tx, .tick, .reset, .idle],
      ({ nineBytes with sched := [e] }).config.wf = true ∧ State.reset.sched = [] := by decide

theorem test_witness_BusyMatrixIsExact :
    collecting.rxBusy = true ∧ lastByte.txptr.toNat < 19 ∧ ¬ (State.reset.rxBusy = true ∨ State.reset.txptr.toNat < 19) := by
  decide

theorem test_witness_ErrorsArePrecise :
    (∃ t, opEvent 0x00000005 State.reset = .next t ∧ t.err ≠ .ok ∧ decode 0x00000005 = .error (.opcode 5)) ∧
      (∃ t, opEvent 0x00000051 State.reset = .next t ∧ t.err ≠ .ok ∧ decode 0x00000051 = .ok (.encode 5)) ∧
      (∃ t, exec .nop State.reset = .next t) ∧ (∃ t, applyEvent .rx nineBytes = .next t) ∧
      (∃ t, applyEvent .reset nineBytes = .next t) :=
  ⟨⟨_, rfl, by decide, by decide⟩, ⟨_, rfl, by decide, by decide⟩, ⟨_, rfl⟩, ⟨_, rfl⟩, ⟨_, rfl⟩⟩

theorem test_witness_NopChangesNothing :
    (0x00000000 : Word).extractLsb' 4 28 = 0 ∧ (0x80000000 : Word).extractLsb' 4 28 ≠ 0 := by decide

theorem test_witness_RdregReadsTheRegister :
    (0x000000F4 : Word).extractLsb' 8 24 = 0 ∧ (0x00000104 : Word).extractLsb' 8 24 ≠ 0 := by decide

theorem test_witness_EncodeStartsTheFrame :
    State.reset.rxBusy = false ∧ 19 ≤ State.reset.txptr.toNat ∧ (4 : BitVec 3).toNat < 5 ∧ 5 ≤ (5 : BitVec 3).toNat ∧
      collecting.rxBusy = true ∧ lastByte.txptr.toNat < 19 := by decide

theorem test_witness_CommandFrameLayout : Config.default.wf = true ∧ 4 < 5 := by decide

theorem test_witness_TxSendsTheNextByte : lastByte.txptr.toNat < 19 ∧ 19 ≤ State.reset.txptr.toNat := by decide

theorem test_witness_FramesAreSentWholeAndInOrder :
    let s := { lastByte with sched := [.op 0x31, .tx, .tick, .reset] }
    s.config.wf = true ∧ s.Inv ∧ Event.reset ∉ s.sched.take 3 ∧ (s.sched.take 3).count .tx = 19 - s.txptr.toNat :=
  ⟨by decide, by constructor <;> decide, by decide, by decide⟩

theorem test_witness_CollectStartsTheReader :
    State.reset.rxBusy = false ∧ 19 ≤ State.reset.txptr.toNat ∧ 11 ≤ (11 : BitVec 4).toNat ∧ (10 : BitVec 4).toNat ≤ 10 ∧
      collecting.rxBusy = true ∧ lastByte.txptr.toNat < 19 ∧ (0x3E8AC002 : Word).extractLsb' 4 4 = 0 ∧
      (0x3E8AC012 : Word).extractLsb' 4 4 ≠ 0 := by decide

theorem test_witness_EndCheckPrefersFull :
    (nineBytes.rxBusy = true ∧ ({ nineBytes with target := 9 }).target.toNat ≤ nineBytes.rxlen.toNat) ∧
      (nineBytes.rxlen.toNat < nineBytes.target.toNat ∧ ({ nineBytes with elapsed := 10 }).deadline.toNat ≤ 10) ∧
      nineBytes.elapsed.toNat < nineBytes.deadline.toNat ∧ State.reset.rxBusy = false := by decide

/-- The clauses of RxAcceptsOneByte: a failing second byte, a passing one, and the byte that fills the buffer. -/
theorem test_witness_RxAcceptsOneByte :
    ((oneByte 0x55).rxlen.toNat = 1 ∧ ¬ ((oneByte 0x55).rxbuf[0] = 0xAA ∧ (0xC0 : Byte) = (oneByte 0x55).expid)) ∧
      ((oneByte 0xAA).rxbuf[0] = 0xAA ∧ (0xC0 : Byte) = (oneByte 0xAA).expid) ∧
      (twoBytes.rxLine = 0x96 :: [] ∧ twoBytes.rxlen.toNat + 1 < twoBytes.target.toNat) ∧
      (nineBytes.rxLine = 0xAB :: [] ∧ nineBytes.rxlen.toNat + 1 = nineBytes.target.toNat) := by decide

theorem test_witness_UntakenBytesStayWithTheTransport : (holding good).rxBusy = false ∧ collecting.rxLine = [] := by decide

theorem test_witness_SyncCheckFailsOnlyAtTheSecondByte :
    twoBytes.Inv ∧ twoBytes.rxBusy = true ∧ 2 ≤ twoBytes.rxlen.toNat ∧ twoBytes.rxLine ≠ [] ∧
      ∃ t, applyEvent .rx twoBytes = .next t :=
  ⟨test_inv_twoBytes, by decide, by decide, by decide, _, rfl⟩

/-- The clauses of TickCountsWhileCollecting: the last tick and the one before it. -/
theorem test_witness_TickCountsWhileCollecting :
    State.reset.rxBusy = false ∧ nineBytes.Inv ∧ nineBytes.rxBusy = true ∧
      nineBytes.elapsed.toNat + 1 = nineBytes.deadline.toNat ∧
      collecting.elapsed.toNat + 1 < collecting.deadline.toNat :=
  ⟨by decide, test_inv_nineBytes, by decide, by decide, by decide⟩

theorem test_witness_OnlyEndCheckAndResetEndACollection :
    nineBytes.rxBusy = true ∧ (∃ t, opEvent 0x3E8AC002 nineBytes = .next t) ∧ (∃ t, applyEvent .tx nineBytes = .next t) ∧
      (∃ t, applyEvent .rx nineBytes = .next t ∧ t.rxBusy = false) ∧
      (∃ t, applyEvent .tick nineBytes = .next t ∧ t.rxBusy = false) :=
  ⟨by decide, ⟨_, rfl⟩, ⟨_, rfl⟩, ⟨_, rfl, by decide⟩, ⟨_, rfl, by decide⟩⟩

/-- A collection that ends short, and one that ends full. -/
theorem test_witness_CollectionNeverEndsEarly :
    (∃ t, run 1 { nineBytes with sched := [.tick] } = .next t ∧ t.rxBusy = false ∧ t.doneCause = .deadline) ∧
      (∃ t, run 1 { nineBytes with sched := [.rx] } = .next t ∧ t.rxBusy = false ∧ t.doneCause = .full) ∧
      ({ nineBytes with sched := [.tick] }).Inv :=
  ⟨⟨_, rfl, by decide, by decide⟩, ⟨_, rfl, by decide, by decide⟩, by constructor <;> decide⟩

theorem test_witness_CollectionsEndWithinTheirTicks :
    let s := { nineBytes with sched := [.op 0x3E8AC002, .tick] }
    s.config.wf = true ∧ s.Inv ∧ s.rxBusy = true ∧
      s.deadline.toNat - s.elapsed.toNat ≤ (s.sched.take 2).count .tick :=
  ⟨by decide, by constructor <;> decide, by decide, by decide⟩

/-- The stream of V-R3. -/
theorem test_witness_ResyncYieldsTheSecondFrame :
    let s := { collecting with
      rxLine := 0x00 :: 0xAA :: 0x11 :: List.replicate 9 0x22 ++ 0xAA :: 0xC0 :: good.toList.drop 2 ++ []
      sched := List.replicate 22 Event.rx ++ [] }
    s.config.wf = true ∧ s.Inv ∧ s.rxBusy = true ∧ s.rxlen = 0 ∧ s.target.toNat = 10 ∧ s.expid = 0xC0 ∧ s.resyncCnt = 0 ∧
      (List.replicate 9 (0x22 : Byte)).length = 9 ∧ (good.toList.drop 2).length = 8 ∧
      ∀ k, k < 5 → ¬ ((0x11 :: List.replicate 9 (0x22 : Byte))[2 * k]? = some 0xAA ∧
        (0x11 :: List.replicate 9 (0x22 : Byte))[2 * k + 1]? = some 0xC0) :=
  ⟨by decide, by constructor <;> decide, by decide, by decide, by decide, by decide, by decide, by decide, by decide,
    by decide⟩

theorem test_witness_CompletedCollectionGuarantees :
    (holding good).Inv ∧ 2 ≤ (holding good).rxlen.toNat ∧ (holding good).rxBusy = false ∧
      (holding good).doneCause = .full ∧ (holding good).target.toNat = 10 ∧
      ({ nineBytes with rxBusy := false, elapsed := 10, doneCause := .deadline }).Inv :=
  ⟨test_inv_holding, by decide, by decide, by decide, by decide, by constructor <;> decide⟩

theorem test_witness_EarlierExchangesDoNotMatter :
    let s := { State.reset with rxLine := [0x11, 0x22], sched := [.rx, .tick] }
    let t := { holding good with lastcmd := 3, lastcmdValid := true, rxLine := [0x11, 0x22], sched := [.rx, .tick] }
    s.config.wf = true ∧ s.config = t.config ∧ s.rxBusy = false ∧ t.rxBusy = false ∧ 19 ≤ s.txptr.toNat ∧
      19 ≤ t.txptr.toNat ∧ s.rxLine = t.rxLine ∧ s.sched = t.sched ∧
      ∀ e ∈ s.sched, e = .rx ∨ e = .tx ∨ e = .tick ∨ e = .idle := by decide

/-- The clauses of DecodeFwReadsThreeBytes, DecodeModeMapsByteFour and DecodeDataChecksThenReads: length 10 and another,
busy, each reason of DECODE.DATA, and a word with a reserved bit. -/
theorem test_witness_decoders :
    ((holding good).rxBusy = false ∧ (holding good).rxlen.toNat = 10) ∧
      (State.reset.rxBusy = false ∧ State.reset.rxlen.toNat ≠ 10) ∧ collecting.rxBusy = true ∧
      ((holding good).rxbuf[0] = 0xAA ∧ (holding good).rxbuf[9] = 0xAB ∧ (holding good).rxbuf[1] = 0xC0) ∧
      (holding (good.set 1 0xC5)).rxbuf[1] ≠ 0xC0 ∧ (holding (good.set 9 0xAA)).rxbuf[9] ≠ 0xAB ∧
      ((0x00000073 : Word).extractLsb' 0 4 = 0x3 ∧ (0x00000073 : Word).extractLsb' 6 26 ≠ 0) := by decide

theorem test_witness_DecodeAutoDispatchesOnTheLastCommand :
    (sending.rxBusy = false ∧ sending.lastcmdValid = true) ∧ State.reset.lastcmdValid = false ∧ collecting.rxBusy = true := by
  decide

theorem test_witness_AutoFollowsTheLatestEncode :
    ∃ t, exec (.encode 4) (holding good) = .next t ∧ t.err = .ok := ⟨_, rfl, by decide⟩

theorem test_witness_FailedDecodesAreNoErrors :
    (holding good).rxBusy = false ∧ ({ holding good with lastcmdValid := true }).lastcmdValid = true ∧
      State.reset.rxlen.toNat ≠ 10 ∧ (holding good).rxlen.toNat = 10 := by decide

/-- A buffer that differs only in bytes no decoder reads. -/
theorem test_witness_DecodersIgnoreUnreadBytes :
    (∀ i : Fin 10, i.val ≤ 5 ∨ i.val = 9 → (good.set 8 0x00)[i] = (holding good).rxbuf[i]) ∧
      (good.set 8 0x00)[4] = (holding good).rxbuf[4] ∧
      (good.set 8 0x00)[Config.default.fwDayOff] = (holding good).rxbuf[Config.default.fwDayOff] := by decide

theorem test_witness_DecodesRepeat : ∃ t, exec .decodeAuto { holding good with lastcmdValid := true } = .next t := ⟨_, rfl⟩

theorem test_witness_ResetAbandonsActivityAndKeepsTheLines : ∃ t, applyEvent .reset nineBytes = .next t := ⟨_, rfl⟩

theorem test_witness_ClockCycleAppliesEventsInOrder :
    (⟨true, true, 0, true, true, true⟩ : Inputs).rst = true ∧ (⟨false, true, 0x31, true, true, true⟩ : Inputs).rst = false ∧
      nineBytes.config.wf = true ∧ { Config.default with fwDayOff := 9 }.wf = false := by decide

theorem test_witness_StepStopsOnlyOnAnIllFormedConfiguration :
    { Config.default with tickPeriodNs := 0 }.wf = false ∧ State.reset.config.wf = true := by decide

theorem test_witness_NoStepWritesTheConfiguration :
    ∃ t, step { nineBytes with sched := [.reset] } = .next t := ⟨_, rfl⟩

/-- EncodeFrame, CollectFrame, DecodeFrame and AccessFrame: an accepted operation and a refused one of each shape. -/
theorem test_witness_operation_frames :
    (∃ t, exec (.encode 4) State.reset = .next t ∧ t.err = .ok) ∧ (∃ t, exec (.encode 5) State.reset = .next t ∧ t.err ≠ .ok) ∧
      (∃ t, exec (.collect 0xC0 10 1) State.reset = .next t ∧ t.err = .ok) ∧
      (∃ t, exec (.collect 0xC0 11 1) State.reset = .next t ∧ t.err ≠ .ok) ∧
      (∃ t, exec .decodeFw (holding good) = .next t ∧ t.err = .ok) ∧
      (∃ t, exec .decodeAuto State.reset = .next t ∧ t.err ≠ .ok) ∧ (∃ t, exec .nop State.reset = .next t) ∧
      (∃ t, exec (.rdreg .txinfo) State.reset = .next t) :=
  ⟨⟨_, rfl, by decide⟩, ⟨_, rfl, by decide⟩, ⟨_, rfl, by decide⟩, ⟨_, rfl, by decide⟩, ⟨_, rfl, by decide⟩,
    ⟨_, rfl, by decide⟩, ⟨_, rfl⟩, ⟨_, rfl⟩⟩

theorem test_witness_LineAndTickFrame :
    (∃ t, applyEvent .rx nineBytes = .next t ∧ t.rxlen = 10) ∧ (∃ t, applyEvent .tx lastByte = .next t ∧ t.txptr = 19) ∧
      (∃ t, applyEvent .tick nineBytes = .next t ∧ t.elapsed = 10) :=
  ⟨⟨_, rfl, by decide⟩, ⟨_, rfl, by decide⟩, ⟨_, rfl, by decide⟩⟩

theorem test_witness_StepKeepsTheInvariants :
    ({ nineBytes with sched := [.rx] }).Inv ∧ ∃ t, step { nineBytes with sched := [.rx] } = .next t :=
  ⟨by constructor <;> decide, _, rfl⟩

theorem test_witness_StepKeepsResultsCoherent :
    ({ holding good with sched := [.op 0x33] }).ResultsCoherent ∧
      ∃ t, step { holding good with sched := [.op 0x33] } = .next t ∧ t.resKind = .data :=
  ⟨by constructor <;> decide, _, rfl, by decide⟩

theorem test_witness_AssemblerRefusesOutOfRange :
    assemble Config.default (.collect 255 15 4095) = some (.collect 0xFF 15 4095) ∧
      assemble Config.default (.encode (.code 7)) = some (.encode 7) ∧
      assemble Config.default (.rdreg (.number 15)) = some (.rdreg .txb4) := by decide

theorem test_witness_PseudoOperationsExpand :
    assemble Config.default (.collectFor (.name 4) 4095) = some (.collect 0xC5 10 4095) := by decide

/-- The clauses of PollCycleOutcome: a validated frame, one that is not, a result and none. -/
theorem test_witness_PollCycleOutcome :
    ((holding good).rxBusy = false ∧ (holding good).doneCause = .full ∧ (holding good).rxlen.toNat = 10 ∧
        (holding good).frameValid = true) ∧
      (holding (good.set 9 0xAA)).frameValid = false ∧
      ({ holding good with resKind := .data }).resKind ≠ .none ∧ State.reset.resKind = .none ∧
      (⟨.readingFrame, 0, true, false⟩ : PollState).stopped = false := by decide

end Sys2Proof.Machine
end

section
/-! The family of 10_state.md: the fields of the register map (R40 to R56) and the values RESET leaves (R58). First what
each register shows, field by field, and what every register reads after RESET; then the statements, put together from
these.

A field lies at the sum of the widths of the parts below it, so the library's rules for a slice of an append find it:
the slice moves past each part below (`BitVec.extractLsb'_append_eq_of_le`) and then is the part it meets
(`BitVec.extractLsb'_append_eq_right`). These rules match only while the width of a register is the sum of its parts'
widths, so `Nat.reduceAdd`, which would add the widths up, is left out. -/

namespace Sys2Proof.Machine

/-! ### The byte lanes of a register (R40, R63) -/

section
variable (b0 b1 b2 b3 : Byte)

@[simp] theorem lanes_byte0 : (lanes b0 b1 b2 b3).extractLsb' 0 8 = b0 := BitVec.extractLsb'_append_eq_right

@[simp] theorem lanes_byte1 : (lanes b0 b1 b2 b3).extractLsb' 8 8 = b1 := by
  simp [-Nat.reduceAdd, lanes, BitVec.extractLsb'_append_eq_of_le, BitVec.extractLsb'_append_eq_right]

@[simp] theorem lanes_byte2 : (lanes b0 b1 b2 b3).extractLsb' 16 8 = b2 := by
  simp [-Nat.reduceAdd, lanes, BitVec.extractLsb'_append_eq_of_le, BitVec.extractLsb'_append_eq_right]

@[simp] theorem lanes_byte3 : (lanes b0 b1 b2 b3).extractLsb' 24 8 = b3 := by
  simp [-Nat.reduceAdd, lanes, BitVec.extractLsb'_append_eq_of_le]

/-- The upper half of a register whose two upper lanes hold zero bytes, as in RXB2 (R46). -/
@[simp] theorem lanes_upper_zero : (lanes b0 b1 0#8 0#8).extractLsb' 16 16 = 0 := by
  simp [-Nat.reduceAdd, lanes, BitVec.extractLsb'_append_eq_of_le]

end

/-! ### The fields of STATUS, RXINFO, TIMER, RESULT and PM (R41 to R43, R47, R49) -/

/-- A flag shown as one bit of a register is read back from that bit. -/
theorem getLsbD_of_extractLsb'_flagBit {n k : Nat} {w : BitVec n} {b : Bool} (h : w.extractLsb' k 1 = flagBit b) :
    w.getLsbD k = b := by
  simpa [flagBit] using congrArg (·.getLsbD 0) h

/-- LASTCMD fits its 3 bits (R41). -/
@[simp] theorem lastcmdBits_toNat (c : Fin nCmd) : (lastcmdBits c).toNat = c.val := by
  revert c
  decide

section
variable (s : State)

theorem State.status_rxBusy : s.status.getLsbD 0 = s.rxBusy :=
  getLsbD_of_extractLsb'_flagBit BitVec.extractLsb'_append_eq_right

theorem State.status_txBusy : s.status.getLsbD 1 = s.txBusy := by
  apply getLsbD_of_extractLsb'_flagBit
  simp [-Nat.reduceAdd, State.status, BitVec.extractLsb'_append_eq_of_le, BitVec.extractLsb'_append_eq_right]

@[simp] theorem State.status_doneCause : s.status.extractLsb' 2 2 = s.doneCause.code := by
  simp [-Nat.reduceAdd, State.status, BitVec.extractLsb'_append_eq_of_le, BitVec.extractLsb'_append_eq_right]

@[simp] theorem State.status_err : s.status.extractLsb' 4 4 = s.err.code := by
  simp [-Nat.reduceAdd, State.status, BitVec.extractLsb'_append_eq_of_le, BitVec.extractLsb'_append_eq_right]

theorem State.status_lastcmdValid : s.status.getLsbD 8 = s.lastcmdValid := by
  apply getLsbD_of_extractLsb'_flagBit
  simp [-Nat.reduceAdd, State.status, BitVec.extractLsb'_append_eq_of_le, BitVec.extractLsb'_append_eq_right]

@[simp] theorem State.status_lastcmd : s.status.extractLsb' 9 3 = lastcmdBits s.lastcmd := by
  simp [-Nat.reduceAdd, State.status, BitVec.extractLsb'_append_eq_of_le, BitVec.extractLsb'_append_eq_right]

@[simp] theorem State.status_upper_zero : s.status.extractLsb' 12 20 = 0 := by
  simp [-Nat.reduceAdd, State.status, BitVec.extractLsb'_append_eq_of_le]

@[simp] theorem State.rxinfo_rxlen : s.rxinfo.extractLsb' 0 4 = s.rxlen := BitVec.extractLsb'_append_eq_right

@[simp] theorem State.rxinfo_target : s.rxinfo.extractLsb' 4 4 = s.target := by
  simp [-Nat.reduceAdd, State.rxinfo, BitVec.extractLsb'_append_eq_of_le, BitVec.extractLsb'_append_eq_right]

@[simp] theorem State.rxinfo_expid : s.rxinfo.extractLsb' 8 8 = s.expid := by
  simp [-Nat.reduceAdd, State.rxinfo, BitVec.extractLsb'_append_eq_of_le, BitVec.extractLsb'_append_eq_right]

@[simp] theorem State.rxinfo_resyncCnt : s.rxinfo.extractLsb' 16 16 = s.resyncCnt := by
  simp [-Nat.reduceAdd, State.rxinfo, BitVec.extractLsb'_append_eq_of_le]

@[simp] theorem State.timer_deadline : s.timer.extractLsb' 0 12 = s.deadline := BitVec.extractLsb'_append_eq_right

@[simp] theorem State.timer_middle_zero : s.timer.extractLsb' 12 4 = 0 := by
  simp [-Nat.reduceAdd, State.timer, BitVec.extractLsb'_append_eq_of_le, BitVec.extractLsb'_append_eq_right]

@[simp] theorem State.timer_elapsed : s.timer.extractLsb' 16 12 = s.elapsed := by
  simp [-Nat.reduceAdd, State.timer, BitVec.extractLsb'_append_eq_of_le, BitVec.extractLsb'_append_eq_right, deadlineW]

@[simp] theorem State.timer_upper_zero : s.timer.extractLsb' 28 4 = 0 := by
  simp [-Nat.reduceAdd, State.timer, BitVec.extractLsb'_append_eq_of_le, deadlineW]

@[simp] theorem State.result_resKind : s.result.extractLsb' 0 2 = s.resKind.code := BitVec.extractLsb'_append_eq_right

@[simp] theorem State.result_resFail : s.result.extractLsb' 2 3 = s.resFail.code := by
  simp [-Nat.reduceAdd, State.result, BitVec.extractLsb'_append_eq_of_le, BitVec.extractLsb'_append_eq_right]

@[simp] theorem State.result_mode : s.result.extractLsb' 5 2 = s.mode.code := by
  simp [-Nat.reduceAdd, State.result, BitVec.extractLsb'_append_eq_of_le, BitVec.extractLsb'_append_eq_right]

@[simp] theorem State.result_upper_zero : s.result.extractLsb' 7 25 = 0 := by
  simp [-Nat.reduceAdd, State.result, BitVec.extractLsb'_append_eq_of_le]

@[simp] theorem State.pm_pm25Raw : s.pm.extractLsb' 0 16 = s.pm25Raw := BitVec.extractLsb'_append_eq_right

@[simp] theorem State.pm_pm10Raw : s.pm.extractLsb' 16 16 = s.pm10Raw := BitVec.extractLsb'_append_eq_left

end

/-! ### Every register after RESET (R58) -/

theorem State.reg_reset (r : Reg) : State.reset.reg r = if r = .txinfo then 0x00000013 else 0x00000000 := by
  cases r <;> decide

theorem State.reg_reset_of_ne_txinfo {r : Reg} (h : r ≠ .txinfo) : State.reset.reg r = 0x00000000 := by
  rw [State.reg_reset, if_neg h]

/-- No register shows the state RESET came from: LAST_EXPID, the one that reads the catalog, reads it only with a valid
LASTCMD (R34). -/
theorem State.reg_resetEvent (s : State) (r : Reg) : s.resetEvent.reg r = State.reset.reg r := by
  cases r <;> rfl

/-! ### The statements -/

/-- Settles O14, field by field; the codes by their cases. -/
theorem statusRegisterFields : Obligations.StatusRegisterFields := by
  unfold Obligations.StatusRegisterFields
  refine ⟨fun s => ?_, State.reg_reset_of_ne_txinfo (by decide)⟩
  simp only [State.reg, State.status_doneCause, State.status_err, State.status_lastcmd, lastcmdBits_toNat]
  refine ⟨s.status_rxBusy, s.status_txBusy, ?doneCause, ?err, s.status_lastcmdValid, trivial,
    Nat.le_of_lt_succ s.lastcmd.isLt, s.status_upper_zero⟩
  case doneCause => cases s.doneCause <;> rfl
  case err => cases s.err <;> rfl

/-- Settles O15: the fields of RXINFO and TIMER, and RXBUF in its lanes. -/
theorem readerRegisterFields : Obligations.ReaderRegisterFields := by
  unfold Obligations.ReaderRegisterFields
  refine ⟨fun s => ?_, fun r hr => State.reg_reset_of_ne_txinfo fun h => by simp [h] at hr⟩
  simp [State.reg]

/-- Settles O16: the codes of RESULT by their cases, the date in its lanes and the two halves of PM. -/
theorem resultRegisterFields : Obligations.ResultRegisterFields := by
  unfold Obligations.ResultRegisterFields
  refine ⟨fun s => ?_, fun r hr => State.reg_reset_of_ne_txinfo fun h => by simp [h] at hr⟩
  simp only [State.reg, State.fwdate, State.result_resKind, State.result_resFail, State.result_mode]
  refine ⟨?resKind, ?resFail, ?mode, s.result_upper_zero, lanes_byte0 .., lanes_byte1 .., lanes_byte2 ..,
    lanes_byte3 .., s.pm_pm25Raw, s.pm_pm10Raw⟩
  case resKind => cases s.resKind <;> rfl
  case resFail => cases s.resFail <;> rfl
  case mode => cases s.mode <;> rfl

/-- Settles O17: each of TXB0 to TXB4 is four lanes, the last of TXB4 a zero byte. -/
theorem transmitLanes : Obligations.TransmitLanes := by
  unfold Obligations.TransmitLanes
  refine ⟨fun s => ?_, fun r hr => State.reg_reset_of_ne_txinfo fun h => by simp [h] at hr⟩
  simp [State.reg]

/-- Settles O45: RESET answers `resetEvent`, whose fields and registers have their lemmas. -/
theorem resetLeavesTheSpecsValues : Obligations.ResetLeavesTheSpecsValues := by
  unfold Obligations.ResetLeavesTheSpecsValues
  intro s
  refine ⟨s.resetEvent, rfl, ?_⟩
  simp [State.reg_resetEvent, State.reg_reset, bufCap, cmdFrameLen]

end Sys2Proof.Machine
end

section
/-! The family of 30_encoding.md: the opcode map, the illegal words, the command frame and the pseudo-operations. First
what the decoder answers for each OP (R83 to R91), and the fields of a word that its form fixes; then the statements, put
together from these. -/

namespace Sys2Proof

/-! ### The decoder, one equation per OP (R82 to R91) -/

section
variable {w : Word}

theorem opField_cases (w : Word) :
    opField w = 0 ∨ opField w = 1 ∨ opField w = 2 ∨ opField w = 3 ∨ opField w = 4 ∨ 5 ≤ (opField w).toNat := by
  generalize opField w = op
  revert op
  decide

theorem decode_of_op_zero (h : opField w = 0) :
    decode w = if w.extractLsb' 4 28 = 0 then .ok .nop else .error (.reservedField 0) := by
  simp [decode, h]

theorem decode_of_op_one (h : opField w = 1) :
    decode w = if w.extractLsb' 7 25 = 0 then .ok (.encode (cmdField w)) else .error (.reservedField 1) := by
  simp [decode, h]

theorem decode_of_op_two (h : opField w = 2) :
    decode w = if w.extractLsb' 4 4 = 0 then .ok (.collect (expidField w) (targetField w) (deadlineField w))
      else .error (.reservedField 2) := by
  simp [decode, h]

theorem decode_of_op_three (h : opField w = 3) :
    decode w = if w.extractLsb' 6 26 = 0 then .ok (decodeForm (kindField w)) else .error (.reservedField 3) := by
  simp [decode, h]

theorem decode_of_op_four (h : opField w = 4) :
    decode w = if w.extractLsb' 8 24 = 0 then .ok (.rdreg (Reg.ofNumber (regField w)))
      else .error (.reservedField 4) := by
  simp [decode, h]

theorem decode_of_five_le_op (h : 5 ≤ (opField w).toNat) : decode w = .error (.opcode (opField w)) := by
  unfold decode
  split
  case h_6 => rfl
  all_goals omega

end

/-! ### The fields a form fixes, and the row they make the word select (R83 to R89) -/

/-- The fields of a word that the form of `i` fixes, its operands left free (R83 to R88). -/
def Instr.FixedFields : Instr → Word → Prop
  | .nop, w => opField w = 0 ∧ w.extractLsb' 4 28 = 0
  | .encode _, w => opField w = 1 ∧ w.extractLsb' 7 25 = 0
  | .collect _ _ _, w => opField w = 2 ∧ w.extractLsb' 4 4 = 0
  | .decodeAuto, w => opField w = 3 ∧ kindField w = 0 ∧ w.extractLsb' 6 26 = 0
  | .decodeFw, w => opField w = 3 ∧ kindField w = 1 ∧ w.extractLsb' 6 26 = 0
  | .decodeMode, w => opField w = 3 ∧ kindField w = 2 ∧ w.extractLsb' 6 26 = 0
  | .decodeData, w => opField w = 3 ∧ kindField w = 3 ∧ w.extractLsb' 6 26 = 0
  | .rdreg _, w => opField w = 4 ∧ w.extractLsb' 8 24 = 0

/-- A word is its OP, the `n` bits above OP, and the bits above those. -/
theorem word_eq_iff_fields (n : Nat) {x y : Word} :
    x = y ↔ opField x = opField y ∧ x.extractLsb' 4 n = y.extractLsb' 4 n ∧
      x.extractLsb' (4 + n) (28 - n) = y.extractLsb' (4 + n) (28 - n) := by
  refine ⟨fun h => by simp [h], fun ⟨hop, hmid, htop⟩ => BitVec.eq_of_getLsbD_eq fun i hi => ?_⟩
  by_cases h4 : i < 4
  · simpa [opField, h4] using congrArg (·.getLsbD i) hop
  by_cases hn : i < 4 + n
  · simpa [show i - 4 < n by omega, show 4 + (i - 4) = i by omega] using congrArg (·.getLsbD (i - 4)) hmid
  · simpa [show i - (4 + n) < 28 - n by omega, show 4 + n + (i - (4 + n)) = i by omega]
      using congrArg (·.getLsbD (i - (4 + n))) htop

theorem extractLsb'_and_of_ones {x m : Word} {k n : Nat} (h : m.extractLsb' k n = BitVec.allOnes n) :
    (x &&& m).extractLsb' k n = x.extractLsb' k n := by
  rw [BitVec.extractLsb'_and, h, BitVec.and_allOnes]

theorem extractLsb'_and_of_zero {x m : Word} {k n : Nat} (h : m.extractLsb' k n = 0#n) :
    (x &&& m).extractLsb' k n = 0#n := by
  rw [BitVec.extractLsb'_and, h, BitVec.and_zero]

/-- A word selects the row of an operation exactly when it holds the fields the operation's form fixes: the mask of the
row keeps those fields and clears the operands. -/
theorem Instr.row_selects_iff (i : Instr) (w : Word) : w &&& i.row.mask = i.row.pattern ↔ i.FixedFields w := by
  cases i with
  | nop => simp [word_eq_iff_fields 28, Instr.row, Instr.FixedFields, opField, extractLsb'_and_of_ones]
  | encode =>
    simp [word_eq_iff_fields 3, Instr.row, Instr.FixedFields, opField, extractLsb'_and_of_ones,
      extractLsb'_and_of_zero]
  | collect | rdreg =>
    simp [word_eq_iff_fields 4, Instr.row, Instr.FixedFields, opField, extractLsb'_and_of_ones,
      extractLsb'_and_of_zero]
  | decodeAuto | decodeFw | decodeMode | decodeData =>
    simp [word_eq_iff_fields 2, Instr.row, Instr.FixedFields, opField, kindField, extractLsb'_and_of_ones]

/-- The DECODE form a KIND selects has that KIND in its fixed fields (R86). -/
theorem decodeForm_fixedFields {w : Word} (hop : opField w = 3) (hr : w.extractLsb' 6 26 = 0) :
    (decodeForm (kindField w)).FixedFields w := by
  have hkind : kindField w = 0 ∨ kindField w = 1 ∨ kindField w = 2 ∨ kindField w = 3 := by
    generalize kindField w = kind
    revert kind
    decide
  rcases hkind with hk | hk | hk | hk <;> simp [hk, decodeForm, Instr.FixedFields, hop, hr]

theorem fixedFields_of_decode {w : Word} {i : Instr} (h : decode w = .ok i) : i.FixedFields w := by
  rcases opField_cases w with hop | hop | hop | hop | hop | hop
  · simp only [decode_of_op_zero hop] at h
    split at h <;> cases h
    exact ⟨hop, ‹_›⟩
  · simp only [decode_of_op_one hop] at h
    split at h <;> cases h
    exact ⟨hop, ‹_›⟩
  · simp only [decode_of_op_two hop] at h
    split at h <;> cases h
    exact ⟨hop, ‹_›⟩
  · simp only [decode_of_op_three hop] at h
    split at h <;> cases h
    exact decodeForm_fixedFields hop ‹_›
  · simp only [decode_of_op_four hop] at h
    split at h <;> cases h
    exact ⟨hop, ‹_›⟩
  · simp [decode_of_five_le_op hop] at h

/-- A word with the fixed fields of a form decodes to that form, with the operands the word holds (R90). -/
theorem decode_of_fixedFields {w : Word} {i : Instr} (h : i.FixedFields w) :
    ∃ j, decode w = .ok j ∧ j.row = i.row := by
  cases i with
  | nop => exact ⟨_, (decode_of_op_zero h.1).trans (if_pos h.2), rfl⟩
  | encode cmd => exact ⟨_, (decode_of_op_one h.1).trans (if_pos h.2), rfl⟩
  | collect expid target deadline => exact ⟨_, (decode_of_op_two h.1).trans (if_pos h.2), rfl⟩
  | rdreg reg => exact ⟨_, (decode_of_op_four h.1).trans (if_pos h.2), rfl⟩
  | decodeAuto | decodeFw | decodeMode | decodeData =>
    obtain ⟨hop, hkind, hr⟩ := h
    exact ⟨_, (decode_of_op_three hop).trans (if_pos hr), by rw [hkind]; rfl⟩

theorem Instr.row_mem_opcodeMap (i : Instr) : i.row ∈ opcodeMap := by
  cases i <;> simp [opcodeMap, Instr.row]

theorem exists_row_eq_of_mem {r : OpcodeRow} (h : r ∈ opcodeMap) : ∃ i : Instr, i.row = r := by
  simp only [opcodeMap, List.mem_cons, List.not_mem_nil, or_false] at h
  rcases h with h | h | h | h | h | h | h | h <;> exact ⟨_, h.symm⟩

/-- A word that selects a row decodes to the form of that row (R89, R90). -/
theorem decode_of_row_selects {w : Word} {r : OpcodeRow} (hr : r ∈ opcodeMap) (h : w &&& r.mask = r.pattern) :
    ∃ i, decode w = .ok i ∧ i.row = r := by
  obtain ⟨i, rfl⟩ := exists_row_eq_of_mem hr
  exact decode_of_fixedFields ((i.row_selects_iff w).1 h)

/-! ### The headers of a well-formed configuration (R7) -/

/-- A well-formed configuration has the head sentinel at the start of every header. -/
theorem Config.header_head_of_wf {c : Config} (hwf : c.wf = true) (k : Nat) (hk : k < nCmd) :
    c.catalog[k].header[0] = headSentinel := by
  have hall : c.headersOk = true := by simp_all [Config.wf]
  simp only [Config.headersOk, List.all_eq_true, beq_iff_eq] at hall
  exact hall _ (by simp)

namespace Machine

/-! ### Illegal words (R91, R106) -/

theorem opEvent_of_decode_error {w : Word} (s : State) {e : IllegalWord} (h : decode w = .error e) :
    opEvent w s = .next (s.raise .illegalOp) := by
  rw [opEvent, h]

/-! ### The command frame (R80, R123) -/

theorem frame_toList (e : CatalogEntry) :
    (frame e).toList = e.header.toList ++ List.replicate 10 0x00 ++ [0xFF, 0xFF, e.cksum, 0xAB] := by
  simp only [frame, Vector.toList_append, Vector.toList_replicate, List.append_assoc]
  rfl

theorem frame_head (e : CatalogEntry) : (frame e)[0] = e.header[0] := by
  simp [← Vector.getElem_toList, frame_toList]

/-! ### The assembler on the operands of R94 -/

theorem assemble_of_wf {cfg : Config} {line : AsmLine} (h : line.wf = true) :
    assemble cfg line = expandLine cfg line := by
  rw [assemble, if_pos h]

theorem commandEntry_of_code (cfg : Config) {cmd : CmdOperand} {c : Fin nCmd} (h : commandCode cmd = c.val) :
    commandEntry cfg cmd = some cfg.catalog[c] := by
  simp [commandEntry, h]

theorem inCatalog_of_code {cmd : CmdOperand} {c : Fin nCmd} (h : commandCode cmd = c.val) :
    cmd.inCatalog = true := by
  cases cmd with
  | code n => exact decide_eq_true (h.trans_lt c.isLt)
  | name c' => rfl

/-- COLLECT.FOR takes the expId of the configured entry and the full response length, whether the entry is named or
numbered (R94). -/
theorem assemble_collectFor (cfg : Config) {cmd : CmdOperand} {c : Fin nCmd} {d : Nat}
    (h : commandCode cmd = c.val) (hd : d < 2 ^ deadlineW) :
    assemble cfg (.collectFor cmd d) = some (.collect cfg.catalog[c].expId 10 (BitVec.ofNat deadlineW d)) := by
  rw [assemble_of_wf (by simp [AsmLine.wf, inCatalog_of_code h, hd]), expandLine,
    commandEntry_of_code cfg h]
  rfl

/-- The number of a register, written out, names that register (R40, R93). -/
theorem assemble_rdreg_number (cfg : Config) (r : Reg) :
    assemble cfg (.rdreg (.number r.number.toNat)) = some (.rdreg r) := by
  have hwf : (AsmLine.rdreg (.number r.number.toNat)).wf = true := decide_eq_true r.number.isLt
  rw [assemble_of_wf hwf]
  simp [expandLine, registerOf]

/-! ### The statements -/

/-- Settles O3. Rows are told apart by the decoder: a word that selects two rows decodes to the form of each. -/
theorem opcodeMapSelectsTheDecodedForm : Obligations.OpcodeMapSelectsTheDecodedForm := by
  unfold Obligations.OpcodeMapSelectsTheDecodedForm
  refine ⟨rfl, ?atMostOne, ?ofDecode, fun w r hr => decode_of_row_selects hr,
    fun w hop => ⟨_, decode_of_five_le_op hop⟩⟩
  case atMostOne =>
    intro w r hr r' hr' h h'
    obtain ⟨i, hi, rfl⟩ := decode_of_row_selects hr h
    obtain ⟨j, hj, rfl⟩ := decode_of_row_selects hr' h'
    rw [Except.ok.inj (hi.symm.trans hj)]
  case ofDecode =>
    exact fun w i h => ⟨i.row_mem_opcodeMap, (i.row_selects_iff w).2 (fixedFields_of_decode h)⟩

/-- Settles O5, by the decoder's equation for each OP. -/
theorem illegalWordsRaiseIllegalOp : Obligations.IllegalWordsRaiseIllegalOp := by
  unfold Obligations.IllegalWordsRaiseIllegalOp
  refine ⟨?illegal, ?legal, fun s => ⟨opEvent_of_decode_error s rfl, opEvent_of_decode_error s rfl⟩⟩
  case illegal =>
    rintro w s (hop | ⟨hop, hr⟩ | ⟨hop, hr⟩ | ⟨hop, hr⟩ | ⟨hop, hr⟩ | ⟨hop, hr⟩)
    · exact opEvent_of_decode_error s (decode_of_five_le_op hop)
    · exact opEvent_of_decode_error s ((decode_of_op_zero hop).trans (if_neg hr))
    · exact opEvent_of_decode_error s ((decode_of_op_one hop).trans (if_neg hr))
    · exact opEvent_of_decode_error s ((decode_of_op_two hop).trans (if_neg hr))
    · exact opEvent_of_decode_error s ((decode_of_op_three hop).trans (if_neg hr))
    · exact opEvent_of_decode_error s ((decode_of_op_four hop).trans (if_neg hr))
  case legal =>
    rintro w (⟨hop, hr⟩ | ⟨hop, hr⟩ | ⟨hop, hr⟩ | ⟨hop, hr⟩ | ⟨hop, hr⟩)
    · exact ⟨_, (decode_of_op_zero hop).trans (if_pos hr)⟩
    · exact ⟨_, (decode_of_op_one hop).trans (if_pos hr)⟩
    · exact ⟨_, (decode_of_op_two hop).trans (if_pos hr)⟩
    · exact ⟨_, (decode_of_op_three hop).trans (if_pos hr)⟩
    · exact ⟨_, (decode_of_op_four hop).trans (if_pos hr)⟩

/-- Settles O21: each byte is read off the frame as a list. -/
theorem commandFrameLayout : Obligations.CommandFrameLayout := by
  unfold Obligations.CommandFrameLayout
  refine ⟨fun e => ⟨frame_toList e, Vector.length_toList, frame_head e, ?bytes⟩, fun c k hk hwf => ?head⟩
  case bytes => simp [← Vector.getElem_toList, frame_toList, hdrLen]
  case head => rw [frame_head, Config.header_head_of_wf hwf]

/-- Settles O59, one expansion at a time. -/
theorem pseudoOperationsExpand : Obligations.PseudoOperationsExpand := by
  unfold Obligations.PseudoOperationsExpand
  refine fun cfg => ⟨rfl, fun c d hd => ?_, fun r => ⟨rfl, assemble_rdreg_number cfg r⟩, fun c => rfl⟩
  have hd' : d < 2 ^ deadlineW := Nat.lt_succ_of_le hd
  exact ⟨assemble_collectFor cfg rfl hd', assemble_collectFor cfg rfl hd'⟩

end Machine
end Sys2Proof
end

section
/-! The family of 40_issue_and_register_access.md: the busy matrix (R103), NOP (R105) and RDREG (R104). First the cells of
the matrix and the code ERR holds after each body; an operation outside the matrix that leaves ERR = BUSY is then one
that does not write ERR at all. -/

namespace Sys2Proof.Machine

/-! ### The operations a word issues -/

theorem opEvent_of_decode_ok {w : Word} (s : State) {i : Instr} (h : decode w = .ok i) : opEvent w s = exec i s := by
  rw [opEvent, h]

theorem exec_nop (s : State) : exec .nop s = .next s := exec_eq_next .nop s

theorem exec_rdreg (r : Reg) (s : State) : exec (.rdreg r) s = .next { s with rdata := s.reg r } :=
  exec_eq_next (.rdreg r) s

/-! ### The cells of the busy matrix (R103) -/

section
variable (s : State)

theorem State.refusedBusy_encode_iff (cmd : BitVec 3) :
    s.refusedBusy (.encode cmd) = true ↔ s.rxBusy = true ∨ s.txptr.toNat < 19 := by
  rw [State.refusedBusy, Bool.or_eq_true, s.txBusy_iff]

theorem State.refusedBusy_collect_iff (expid : Byte) (target : BitVec 4) (deadline : BitVec deadlineW) :
    s.refusedBusy (.collect expid target deadline) = true ↔ s.rxBusy = true ∨ s.txptr.toNat < 19 := by
  rw [State.refusedBusy, Bool.or_eq_true, s.txBusy_iff]

/-! ### ERR after the body of an operation (R122, R160, R161, R190, R201) -/

theorem State.encodeBody_err (cmd : BitVec 3) :
    (s.encodeBody cmd).err = if 5 ≤ cmd.toNat then .unknownCmd else .ok := by
  rcases s.encodeBody_cases cmd with ⟨hcmd, h⟩ | ⟨hcmd, h⟩
  · rw [h, if_neg (Nat.not_le_of_lt hcmd)]
  · rw [h, if_pos hcmd, State.raise_err]

theorem State.collectBody_err (expid : Byte) (target : BitVec 4) (deadline : BitVec deadlineW) :
    (s.collectBody expid target deadline).err = if 11 ≤ target.toNat then .badTarget else .ok := by
  rcases s.collectBody_cases expid target deadline with ⟨htarget, h⟩ | ⟨htarget, h⟩
  · rw [h, if_neg (by omega), State.endCheck_err, State.startReader]
  · rw [h, if_pos htarget, State.raise_err]

/-- A decoder writes ERR only by clearing the results, whether its check passes or not (R190, R191). -/
theorem State.decodeWith_err (check : State → ResFail) {result : State → State}
    (hkeep : ∀ u, (result u).err = u.err) : (s.decodeWith check result).err = .ok := by
  rcases s.decodeWith_cases check result with ⟨-, h⟩ | ⟨-, h⟩
  · rw [h, hkeep, State.clearResults_err]
  · rw [h, State.clearResults_err]

theorem State.decodeFwBody_err : s.decodeFwBody.err = .ok := s.decodeWith_err _ State.fwResult_err

theorem State.decodeModeBody_err : s.decodeModeBody.err = .ok := s.decodeWith_err _ State.modeResult_err

theorem State.decodeDataBody_err : s.decodeDataBody.err = .ok := s.decodeWith_err _ State.dataResult_err

theorem State.decodeAutoBody_err : s.decodeAutoBody.err = if s.lastcmdValid = false then .noCmd else .ok := by
  rcases s.decodeAutoBody_cases with ⟨hvalid, h⟩ | ⟨hvalid, h | h | h⟩
  · rw [h, if_pos hvalid, State.raise_err]
  · rw [h, hvalid, s.decodeFwBody_err]; rfl
  · rw [h, hvalid, s.decodeModeBody_err]; rfl
  · rw [h, hvalid, s.decodeDataBody_err]; rfl

end

/-- No body raises BUSY: one that leaves ERR = BUSY is that of NOP or RDREG, which keep the ERR of before (R103 to
R105). -/
theorem bodyOf_err_eq_busy {i : Instr} {s : State} (h : (bodyOf i s).err = .busy) :
    s.err = .busy ∧ (i = .nop ∨ ∃ r, i = .rdreg r) := by
  cases i with
  | nop => exact ⟨h, .inl rfl⟩
  | rdreg r => exact ⟨h, .inr ⟨r, rfl⟩⟩
  | encode cmd =>
    rw [bodyOf, State.encodeBody_err] at h
    split at h <;> cases h
  | collect expid target deadline =>
    rw [bodyOf, State.collectBody_err] at h
    split at h <;> cases h
  | decodeAuto =>
    rw [bodyOf, State.decodeAutoBody_err] at h
    split at h <;> cases h
  | decodeFw => rw [bodyOf, State.decodeFwBody_err] at h; cases h
  | decodeMode => rw [bodyOf, State.decodeModeBody_err] at h; cases h
  | decodeData => rw [bodyOf, State.decodeDataBody_err] at h; cases h

/-- One operation against its row `p` of the matrix: refused where `p` holds, and elsewhere performed by a body that does not
raise BUSY (R100, R103). -/
theorem exec_busy_or_free {i : Instr} {s : State} {p : Prop} (hcell : s.refusedBusy i = true ↔ p) :
    (p ∧ exec i s = .next { s with err := .busy }) ∨
      (¬ p ∧ ∃ t, exec i s = .next t ∧ (t.err = .busy → s.err = .busy ∧ (i = .nop ∨ ∃ r, i = .rdreg r))) := by
  rw [← hcell, exec_eq_next]
  cases s.refusedBusy i with
  | true => exact .inl ⟨rfl, rfl⟩
  | false => exact .inr ⟨Bool.false_ne_true, _, rfl, bodyOf_err_eq_busy⟩

/-! ### The statements -/

/-- Settles O9, cell by cell of the matrix. -/
theorem busyMatrixIsExact : Obligations.BusyMatrixIsExact := by
  unfold Obligations.BusyMatrixIsExact
  intro i s
  refine exec_busy_or_free ?cell
  cases i with
  | nop | rdreg => exact iff_of_eq Bool.false_eq_true
  | encode cmd => exact s.refusedBusy_encode_iff cmd
  | collect expid target deadline => exact s.refusedBusy_collect_iff expid target deadline
  | decodeAuto | decodeFw | decodeMode | decodeData => exact Iff.rfl

/-- Settles O12, by the decoder's equation for OP 0. -/
theorem nopChangesNothing : Obligations.NopChangesNothing := by
  unfold Obligations.NopChangesNothing
  refine ⟨exec_nop, fun w s hop => ⟨fun hr => ?nop, fun hr => ?illegal⟩⟩
  case nop => rw [opEvent_of_decode_ok s ((decode_of_op_zero hop).trans (if_pos hr)), exec_nop]
  case illegal => exact opEvent_of_decode_error s ((decode_of_op_zero hop).trans (if_neg hr))

/-- Settles O13, by the decoder's equation for OP 4; the example reads TXINFO as RESET leaves it. -/
theorem rdregReadsTheRegister : Obligations.RdregReadsTheRegister := by
  unfold Obligations.RdregReadsTheRegister
  refine ⟨exec_rdreg, fun w s hop => ⟨fun hr => ?rdreg, fun hr => ?illegal⟩, ?txinfo⟩
  case rdreg =>
    refine ⟨Reg.ofNumber (regField w), Reg.number_ofNumber _, ?_⟩
    rw [opEvent_of_decode_ok s ((decode_of_op_four hop).trans (if_pos hr)), exec_rdreg]
  case illegal => exact opEvent_of_decode_error s ((decode_of_op_four hop).trans (if_neg hr))
  case txinfo =>
    have hdecode : decode 0x000000A4 = .ok (.rdreg .txinfo) := rfl
    rw [opEvent_of_decode_ok _ hdecode, exec_rdreg, State.reg_reset, if_pos rfl]

end Sys2Proof.Machine
end

section
/-! The family of 41_encoder.md: ENCODE (R122). First its body in and above the catalog's range, and its issue in an
idle and in a busy block; then the statement, put together from these. -/

namespace Sys2Proof.Machine

section
variable (s : State) {cmd : BitVec 3}

theorem State.encodeBody_of_lt (h : cmd.toNat < 5) :
    s.encodeBody cmd =
      { s with txbuf := frame s.config.catalog[cmd.toNat], txptr := 0, lastcmd := ⟨cmd.toNat, h⟩,
               lastcmdValid := true, err := .ok } :=
  dif_pos h

theorem State.encodeBody_of_le (h : 5 ≤ cmd.toNat) : s.encodeBody cmd = s.raise .unknownCmd :=
  dif_neg (Nat.not_lt_of_le h)

/-- With neither a collection running nor a frame being sent, ENCODE performs its body (R103). -/
theorem exec_encode_of_idle (hrx : s.rxBusy = false) (htx : 19 ≤ s.txptr.toNat) :
    exec (.encode cmd) s = .next (s.encodeBody cmd) := by
  have hfree : s.refusedBusy (.encode cmd) = false := by
    rw [State.refusedBusy, hrx, s.txBusy_false_iff.2 htx, Bool.or_false]
  exact issue_of_free hfree

theorem exec_encode_of_busy (h : s.rxBusy = true ∨ s.txptr.toNat < 19) :
    exec (.encode cmd) s = .next (s.raise .busy) :=
  issue_of_busy ((s.refusedBusy_encode_iff cmd).2 h)

end

/-- Settles O20, clause by clause; the word by the decoder's equation for OP 1. -/
theorem encodeStartsTheFrame : Obligations.EncodeStartsTheFrame := by
  unfold Obligations.EncodeStartsTheFrame
  refine ⟨fun cmd s hrx htx hcmd => ?accepted, fun cmd s hrx htx hcmd => ?unknownCmd,
    fun cmd s hbusy => exec_encode_of_busy s hbusy, fun w s hop => ⟨fun hr => ?legal, fun hr => ?illegal⟩⟩
  case accepted => rw [exec_encode_of_idle s hrx htx, s.encodeBody_of_lt hcmd]
  case unknownCmd => rw [exec_encode_of_idle s hrx htx, s.encodeBody_of_le hcmd, State.raise]
  case legal => exact opEvent_of_decode_ok s ((decode_of_op_one hop).trans (if_pos hr))
  case illegal => exact opEvent_of_decode_error s ((decode_of_op_one hop).trans (if_neg hr))

end Sys2Proof.Machine
end

section
/-! The family of 42_validator.md: DECODE.DATA (R149, R194). First a decoder whose check passes and one whose check fails,
and the reason data_check gives; then the issue of DECODE.DATA, and the statement, put together from these. -/

namespace Sys2Proof.Machine

section
variable {s : State}

theorem State.decodeWith_of_pass {check : State → ResFail} {result : State → State}
    (h : check s.clearResults = .none) : s.decodeWith check result = result s.clearResults := by
  rw [State.decodeWith, h]

theorem State.decodeWith_of_fail {check : State → ResFail} {result : State → State}
    (h : check s.clearResults ≠ .none) :
    s.decodeWith check result = { s.clearResults with resFail := check s.clearResults } :=
  (s.decodeWith_cases check result).elim (fun hpass => absurd hpass.1 h) (·.2)

/-- The reason of a failed data_check: the last of the four checks needs no test of its own (R149). -/
theorem State.dataCheck_of_ne_none (h : s.dataCheck ≠ .none) :
    s.dataCheck = if s.rxlen.toNat ≠ 10 then .len else if s.rxbuf[0] ≠ 0xAA then .head
      else if s.rxbuf[9] ≠ 0xAB then .tail else .id := by
  unfold State.dataCheck
  refine ite_congr rfl (fun _ => rfl) fun hlen => ite_congr rfl (fun _ => rfl) fun hhead =>
    ite_congr rfl (fun _ => rfl) fun htail => if_pos fun hid => h ?_
  exact s.dataCheck_eq_none_iff.2 ⟨not_not.1 hlen, not_not.1 hhead, not_not.1 htail, hid⟩

theorem exec_decodeData_of_idle (h : s.rxBusy = false) : exec .decodeData s = .next s.decodeDataBody :=
  issue_of_free h

theorem exec_decodeData_of_busy (h : s.rxBusy = true) : exec .decodeData s = .next (s.raise .busy) :=
  issue_of_busy h

theorem State.decodeDataBody_of_pass (h : s.dataCheck = .none) : s.decodeDataBody = s.clearResults.dataResult :=
  State.decodeWith_of_pass h

theorem State.decodeDataBody_of_fail (h : s.dataCheck ≠ .none) :
    s.decodeDataBody = { s.clearResults with resFail := s.dataCheck } :=
  State.decodeWith_of_fail h

end

/-- Settles O38, clause by clause; the words by the decoder's equation for OP 3. -/
theorem decodeDataChecksThenReads : Obligations.DecodeDataChecksThenReads := by
  unfold Obligations.DecodeDataChecksThenReads
  refine ⟨fun s hidle hlen hhead htail hid => ?values, fun s hidle hfail => ?reason,
    fun s hbusy => exec_decodeData_of_busy hbusy, fun s => opEvent_of_decode_ok s rfl,
    fun w s hop hr => opEvent_of_decode_error s ((decode_of_op_three hop).trans (if_neg hr))⟩
  case values =>
    have hpass : s.dataCheck = .none := s.dataCheck_eq_none_iff.2 ⟨hlen, hhead, htail, hid⟩
    rw [exec_decodeData_of_idle hidle, State.decodeDataBody_of_pass hpass]
    rfl
  case reason =>
    have hne : s.dataCheck ≠ .none := fun hpass => hfail (s.dataCheck_eq_none_iff.1 hpass)
    rw [exec_decodeData_of_idle hidle, State.decodeDataBody_of_fail hne, State.dataCheck_of_ne_none hne]
    rfl

end Sys2Proof.Machine
end

section
/-! The family of 43_reader.md: COLLECT (R160, R161), end_check (R162), RX (R165, R166), TICK (R168) and the end of a
collection (R171). First the cases of end_check and the states it closes; then the check of the two leading bytes against
the byte just appended, and the operations a running collection does not refuse; the statements are put together from
these. -/

namespace Sys2Proof.Machine

/-! ### end_check (R162) -/

section
variable {s : State}

theorem State.endCheck_of_full (hbusy : s.rxBusy = true) (hfull : s.target.toNat ≤ s.rxlen.toNat) :
    s.endCheck = { s with rxBusy := false, doneCause := .full } :=
  if_pos ⟨hbusy, hfull⟩

theorem State.endCheck_of_expired (hbusy : s.rxBusy = true) (hshort : s.rxlen.toNat < s.target.toNat)
    (hexpired : s.deadline.toNat ≤ s.elapsed.toNat) :
    s.endCheck = { s with rxBusy := false, doneCause := .deadline } := by
  rw [State.endCheck, if_neg (by omega), if_pos ⟨hbusy, hexpired⟩]

/-- A collection that an end_check has ended is full with cause FULL or at its deadline with cause DEADLINE (R162). -/
theorem State.endCheck_ended (hbusy : s.rxBusy = true) (hended : s.endCheck.rxBusy = false) :
    (s.endCheck.target.toNat ≤ s.endCheck.rxlen.toNat ∧ s.endCheck.doneCause = .full) ∨
      (s.endCheck.deadline.toNat ≤ s.endCheck.elapsed.toNat ∧ s.endCheck.doneCause = .deadline) := by
  rcases s.endCheck_cases with ⟨-, hfull, h⟩ | ⟨-, -, hexpired, h⟩ | ⟨-, h⟩
  · rw [h]; exact .inl ⟨hfull, rfl⟩
  · rw [h]; exact .inr ⟨hexpired, rfl⟩
  · rw [h, hbusy] at hended; cases hended

end

/-! ### COLLECT (R160, R161) -/

section
variable (s : State) {expid : Byte} {target : BitVec 4} {deadline : BitVec deadlineW}

/-- With neither a collection running nor a frame being sent, COLLECT performs its body (R103). -/
theorem exec_collect_of_idle (hrx : s.rxBusy = false) (htx : 19 ≤ s.txptr.toNat) :
    exec (.collect expid target deadline) s = .next (s.collectBody expid target deadline) := by
  have hfree : s.refusedBusy (.collect expid target deadline) = false := by
    rw [State.refusedBusy, hrx, s.txBusy_false_iff.2 htx, Bool.or_false]
  exact issue_of_free hfree

theorem exec_collect_of_busy (h : s.rxBusy = true ∨ s.txptr.toNat < 19) :
    exec (.collect expid target deadline) s = .next (s.raise .busy) :=
  issue_of_busy ((s.refusedBusy_collect_iff expid target deadline).2 h)

theorem State.collectBody_of_le (h : target.toNat ≤ 10) :
    s.collectBody expid target deadline = (s.startReader expid target deadline).endCheck :=
  if_neg (Nat.not_lt_of_le h)

theorem State.collectBody_of_gt (h : 11 ≤ target.toNat) :
    s.collectBody expid target deadline = s.raise .badTarget :=
  if_pos h

/-- The reader COLLECT leaves: target 0 ends the collection at once, and so does deadline 0 (R160, R162). -/
theorem State.endCheck_startReader :
    (s.startReader expid target deadline).endCheck =
      { s.startReader expid target deadline with
        rxBusy := decide (0 < target.toNat ∧ 0 < deadline.toNat)
        doneCause := if target.toNat = 0 then .full else if deadline.toNat = 0 then .deadline else .none } := by
  rcases Nat.eq_zero_or_pos target.toNat with ht | ht
  · rw [if_pos ht, decide_eq_false (by omega)]
    exact State.endCheck_of_full rfl ht.le
  rcases Nat.eq_zero_or_pos deadline.toNat with hd | hd
  · rw [if_neg ht.ne', if_pos hd, decide_eq_false (by omega)]
    exact State.endCheck_of_expired rfl ht hd.le
  · rw [if_neg ht.ne', if_neg hd.ne', decide_eq_true ⟨ht, hd⟩]
    exact State.endCheck_of_running ht hd

end

/-! ### RX and TICK while a collection runs (R165, R166, R168) -/

section
variable {s : State} {b : Byte} {rest : List Byte}

theorem applyEvent_rx_of_collecting (hbusy : s.rxBusy = true) (hline : s.rxLine = b :: rest) :
    applyEvent .rx s = .next (State.rxByte b { s with rxLine := rest }) := by
  simp only [applyEvent, State.rxEvent, State.rxReady, hbusy, hline, if_true]

theorem applyEvent_tick_of_collecting (hbusy : s.rxBusy = true) :
    applyEvent .tick s = .next (State.endCheck { s with elapsed := s.elapsed + 1 }) := by
  rw [applyEvent, State.tickEvent, if_pos hbusy]

theorem applyEvent_tick_of_idle (hidle : s.rxBusy = false) : applyEvent .tick s = .next s := by
  rw [applyEvent, State.tickEvent, hidle, if_neg Bool.false_ne_true]

theorem State.appendByte_of_lt (hcap : s.rxlen.toNat < 10) :
    s.appendByte b = { s with rxbuf := s.rxbuf.set s.rxlen.toNat b, rxlen := s.rxlen + 1 } := by
  have hset : s.rxbuf.setIfInBounds s.rxlen.toNat b = s.rxbuf.set s.rxlen.toNat b :=
    Vector.ext fun i hi => by rw [Vector.getElem_setIfInBounds hi, Vector.getElem_set hcap hi]
  rw [State.appendByte, hset]

theorem State.resync_of_synced (h : 2 ≤ s.rxlen.toNat → s.rxbuf[0] = 0xAA ∧ s.rxbuf[1] = s.expid) : s.resync = s :=
  s.resync_cases.elim (fun hfail => absurd (h hfail.1) hfail.2.1) (·.2)

theorem State.resync_of_unsynced (hlen : 2 ≤ s.rxlen.toNat) (h : ¬ (s.rxbuf[0] = 0xAA ∧ s.rxbuf[1] = s.expid)) :
    s.resync = s.discard :=
  s.resync_cases.elim (·.2.2) fun hpass => absurd (hpass.1 hlen) h

/-- After the second byte the check reads the first byte held and the byte that came (R145). -/
theorem State.appendByte_synced_iff_of_second (hlen : s.rxlen.toNat = 1) :
    ((s.appendByte b).rxbuf[0] = 0xAA ∧ (s.appendByte b).rxbuf[1] = (s.appendByte b).expid) ↔
      (s.rxbuf[0] = 0xAA ∧ b = s.expid) := by
  simp [hlen]

/-- A byte appended from the third on leaves the two leading bytes (R167). -/
theorem State.appendByte_leading (hlen : 2 ≤ s.rxlen.toNat) :
    (s.appendByte b).rxbuf[0] = s.rxbuf[0] ∧ (s.appendByte b).rxbuf[1] = s.rxbuf[1] := by
  have h0 : s.rxlen.toNat ≠ 0 := by omega
  have h1 : s.rxlen.toNat ≠ 1 := by omega
  simp [h0, h1]

/-- A second byte that fails the check discards both bytes (R165, R166). -/
theorem State.resync_appendByte_of_fail (hlen : s.rxlen.toNat = 1) (hfail : ¬ (s.rxbuf[0] = 0xAA ∧ b = s.expid)) :
    (s.appendByte b).resync = (s.appendByte b).discard := by
  have htwo : (s.appendByte b).rxlen.toNat = 2 := by
    rw [State.appendByte_rxlen, rxlen_succ (by omega), hlen]
  exact State.resync_of_unsynced htwo.ge ((State.appendByte_synced_iff_of_second hlen).not.2 hfail)

/-- Every byte but a failing second one passes the check, which the bytes held already passed (R165, R167). -/
theorem State.resync_appendByte_of_pass (hcap : s.rxlen.toNat < 10)
    (hsynced : 2 ≤ s.rxlen.toNat → s.rxbuf[0] = 0xAA ∧ s.rxbuf[1] = s.expid)
    (hpass : s.rxlen.toNat = 1 → s.rxbuf[0] = 0xAA ∧ b = s.expid) : (s.appendByte b).resync = s.appendByte b := by
  refine State.resync_of_synced fun htwo => ?_
  rw [State.appendByte_rxlen, rxlen_succ (by omega)] at htwo
  by_cases hlen : s.rxlen.toNat = 1
  · exact (State.appendByte_synced_iff_of_second hlen).2 (hpass hlen)
  · have hheld : 2 ≤ s.rxlen.toNat := by omega
    obtain ⟨h0, h1⟩ := State.appendByte_leading (b := b) hheld
    rw [h0, h1]
    exact hsynced hheld

/-- A discard leaves the collection running: the buffer is empty, and ELAPSED and DEADLINE are not touched (R166). -/
theorem State.rxByte_of_fail (hlen : s.rxlen.toNat = 1) (hfail : ¬ (s.rxbuf[0] = 0xAA ∧ b = s.expid))
    (htarget : 0 < s.target.toNat) (htime : s.elapsed.toNat < s.deadline.toNat) :
    s.rxByte b = (s.appendByte b).discard := by
  rw [State.rxByte, State.resync_appendByte_of_fail hlen hfail]
  exact State.endCheck_of_running htarget htime

theorem State.rxByte_of_pass (hcap : s.rxlen.toNat < 10)
    (hsynced : 2 ≤ s.rxlen.toNat → s.rxbuf[0] = 0xAA ∧ s.rxbuf[1] = s.expid)
    (hpass : s.rxlen.toNat = 1 → s.rxbuf[0] = 0xAA ∧ b = s.expid) :
    s.rxByte b = State.endCheck { s with rxbuf := s.rxbuf.set s.rxlen.toNat b, rxlen := s.rxlen + 1 } := by
  rw [State.rxByte, State.resync_appendByte_of_pass hcap hsynced hpass, State.appendByte_of_lt hcap]

end

/-! ### What leaves the reader alone while a collection runs (R171) -/

section
variable {s : State}

theorem State.SameReader.refl (s : State) : s.SameReader s := ⟨rfl, rfl, rfl, rfl, rfl, rfl, rfl, rfl, rfl⟩

theorem State.sameReader_raise (e : ErrCode) : s.SameReader (s.raise e) := ⟨rfl, rfl, rfl, rfl, rfl, rfl, rfl, rfl, rfl⟩

theorem State.sameReader_txEvent : s.SameReader s.txEvent := by
  rcases s.txEvent_cases with ⟨-, h⟩ | ⟨-, h⟩
  · rw [h]; exact .refl s
  · rw [h]; exact ⟨rfl, rfl, rfl, rfl, rfl, rfl, rfl, rfl, rfl⟩

/-- While a collection runs, an operation raises BUSY or is NOP or RDREG, which reach no reader state (R103). -/
theorem exec_sameReader_of_collecting {i : Instr} {t : State} (hbusy : s.rxBusy = true) (h : exec i s = .next t) :
    s.SameReader t := by
  rcases exec_cases h with ⟨-, rfl⟩ | ⟨hfree, rfl⟩
  · exact s.sameReader_raise .busy
  · cases i with
    | nop => exact .refl s
    | rdreg r => exact ⟨rfl, rfl, rfl, rfl, rfl, rfl, rfl, rfl, rfl⟩
    | encode | collect | decodeAuto | decodeFw | decodeMode | decodeData => simp [State.refusedBusy, hbusy] at hfree

theorem opEvent_sameReader_of_collecting {w : Word} {t : State} (hbusy : s.rxBusy = true)
    (h : opEvent w s = .next t) : s.SameReader t := by
  cases hdecode : decode w with
  | error e =>
    rw [opEvent_of_decode_error s hdecode] at h
    cases h
    exact s.sameReader_raise .illegalOp
  | ok i =>
    rw [opEvent_of_decode_ok s hdecode] at h
    exact exec_sameReader_of_collecting hbusy h

/-- An RX or a TICK that ends a collection is an end_check that does (R162, R165, R168). -/
theorem rx_or_tick_ended {t : State} (hbusy : s.rxBusy = true)
    (h : applyEvent .rx s = .next t ∨ applyEvent .tick s = .next t) (hended : t.rxBusy = false) :
    ∃ u : State, u.rxBusy = true ∧ t = u.endCheck := by
  rcases h with hrx | htick
  · cases hrx
    rcases s.rxEvent_cases with ⟨-, hsame⟩ | ⟨b, rest, -, -, htaken⟩
    · rw [hsame, hbusy] at hended
      cases hended
    · refine ⟨(State.appendByte b { s with rxLine := rest }).resync, ?_, htaken⟩
      rw [State.resync_rxBusy, State.appendByte_rxBusy, hbusy]
  · rw [applyEvent_tick_of_collecting hbusy] at htick
    cases htick
    exact ⟨{ s with elapsed := s.elapsed + 1 }, hbusy, rfl⟩

end

/-! ### The statements -/

/-- Settles O26: the position of the byte decides its check, and the invariants then say what the end check finds. -/
theorem rxAcceptsOneByte : Obligations.RxAcceptsOneByte := by
  unfold Obligations.RxAcceptsOneByte
  intro s b rest hinv hbusy hline
  have hshort : s.rxlen.toNat < s.target.toNat := hinv.busy_not_full hbusy
  have htime : s.elapsed.toNat < s.deadline.toNat := hinv.busy_not_expired hbusy
  have hcap : s.rxlen.toNat < 10 := hshort.trans_le hinv.target_le_cap
  have hnext : (s.rxlen + 1).toNat = s.rxlen.toNat + 1 := rxlen_succ (by omega)
  rw [applyEvent_rx_of_collecting hbusy hline]
  refine ⟨fun ⟨hlen, hfail⟩ => ?discarded, fun hkept h => ?kept⟩
  case discarded => exact congrArg _ (State.rxByte_of_fail hlen hfail hshort.pos htime)
  case kept =>
    have hpass : s.rxlen.toNat = 1 → s.rxbuf[0] = 0xAA ∧ b = s.expid :=
      fun hlen => not_not.1 fun hfail => hkept ⟨hlen, hfail⟩
    rw [State.rxByte_of_pass (s := { s with rxLine := rest }) hcap hinv.synced hpass]
    refine ⟨fun hroom => ?running, fun hlast => ?full⟩
    case running => exact congrArg _ (State.endCheck_of_running (hnext.trans_lt hroom) htime)
    case full => exact congrArg _ (State.endCheck_of_full hbusy (hnext.trans hlast).ge)

/-- Settles O30, event by event. -/
theorem onlyEndCheckAndResetEndACollection : Obligations.OnlyEndCheckAndResetEndACollection := by
  unfold Obligations.OnlyEndCheckAndResetEndACollection
  intro s hbusy
  refine ⟨fun w t h => opEvent_sameReader_of_collecting hbusy h, fun t h => ?tx, fun t h => ?idle,
    fun t h hended => ?ended, fun t h => ?reset⟩
  case tx => cases h; exact s.sameReader_txEvent
  case idle => cases h; exact .refl s
  case ended =>
    obtain ⟨u, hu, rfl⟩ := rx_or_tick_ended hbusy h hended
    exact State.endCheck_ended hu hended
  case reset => cases h; rfl

/-- Settles O24, clause by clause; the word by the decoder's equation for OP 2. -/
theorem collectStartsTheReader : Obligations.CollectStartsTheReader := by
  unfold Obligations.CollectStartsTheReader
  refine ⟨fun expid target deadline s hrx htx => ⟨fun htarget => ?badTarget, fun htarget => ?accepted⟩,
    fun expid target deadline s hbusy => exec_collect_of_busy s hbusy,
    fun w s hop => ⟨fun hr => ?legal, fun hr => ?illegal⟩⟩
  case badTarget => rw [exec_collect_of_idle s hrx htx, s.collectBody_of_gt htarget, State.raise]
  case accepted =>
    rw [exec_collect_of_idle s hrx htx, s.collectBody_of_le htarget, s.endCheck_startReader]
    rfl
  case legal => exact opEvent_of_decode_ok s ((decode_of_op_two hop).trans (if_pos hr))
  case illegal => exact opEvent_of_decode_error s ((decode_of_op_two hop).trans (if_neg hr))

/-- Settles O25: the four cases of end_check, and the three events it closes. -/
theorem endCheckPrefersFull : Obligations.EndCheckPrefersFull := by
  unfold Obligations.EndCheckPrefersFull
  refine ⟨fun s => ⟨State.endCheck_of_full, State.endCheck_of_expired, fun _ => State.endCheck_of_running,
    State.endCheck_of_idle⟩, fun expid target deadline s hrx htx htarget => ?collect,
    fun s b rest => applyEvent_rx_of_collecting, fun s => applyEvent_tick_of_collecting⟩
  case collect =>
    refine ⟨s.startReader expid target deadline, ?_, rfl, rfl, rfl, rfl, rfl⟩
    rw [exec_collect_of_idle s hrx htx, s.collectBody_of_le htarget]

/-- Settles O29: ELAPSED is below DEADLINE while a collection runs, so the count neither wraps nor passes it. -/
theorem tickCountsWhileCollecting : Obligations.TickCountsWhileCollecting := by
  unfold Obligations.TickCountsWhileCollecting
  refine ⟨fun s => applyEvent_tick_of_idle, fun s hinv hbusy => ?_⟩
  have hcount : (s.elapsed + 1).toNat = s.elapsed.toNat + 1 := elapsed_succ (hinv.busy_not_expired hbusy)
  have hshort : s.rxlen.toNat < s.target.toNat := hinv.busy_not_full hbusy
  refine ⟨hcount, fun hbelow => ?below, fun hat => ?atDeadline⟩
  case below =>
    rw [applyEvent_tick_of_collecting hbusy]
    exact congrArg _ (State.endCheck_of_running hshort (hcount.trans_lt hbelow))
  case atDeadline =>
    rw [applyEvent_tick_of_collecting hbusy]
    exact congrArg _ (State.endCheck_of_expired hbusy hshort (hcount.trans hat).ge)

end Sys2Proof.Machine
end

section
/-! The family of 44_decoder.md: DECODE.FW (R192), DECODE.MODE (R193) and DECODE.AUTO (R200, R201), and that a failed
decode is no error (R190). First the issue of a DECODE word, the decoders that check only the length, and the dispatch of
DECODE.AUTO; then what every decoder leaves, by what its check says of the frame held; the statements are put together
from these. -/

namespace Sys2Proof.Machine

section
variable {s : State}

/-! ### The issue of a DECODE word (R86, R91, R103)

The cell of a DECODE form in the busy matrix is RX_BUSY itself. -/

/-- An operation that is not refused performs its body (R100). -/
theorem exec_of_free (i : Instr) (h : s.refusedBusy i = false) : exec i s = .next (bodyOf i s) :=
  (exec_eq_issue i s).trans (issue_of_free h)

theorem exec_of_busy (i : Instr) (h : s.refusedBusy i = true) : exec i s = .next (s.raise .busy) :=
  (exec_eq_issue i s).trans (issue_of_busy h)

/-- A word with OP 3 and a reserved bit set has no form, whatever KIND it holds (R86, R91). -/
theorem opEvent_of_op_three_reserved {w : Word} (hop : opField w = 3) (hr : w.extractLsb' 6 26 ≠ 0) :
    opEvent w s = .next (s.raise .illegalOp) :=
  opEvent_of_decode_error s ((decode_of_op_three hop).trans (if_neg hr))

/-! ### A decoder that checks only the length (R150, R192, R193) -/

theorem State.lenCheck_of_ne (h : s.rxlen.toNat ≠ 10) : s.lenCheck = .len := if_pos h

theorem State.decodeWith_lenCheck_of_eq {result : State → State} (h : s.rxlen.toNat = 10) :
    s.decodeWith State.lenCheck result = result s.clearResults :=
  State.decodeWith_of_pass (s.lenCheck_eq_none_iff.2 h)

theorem State.decodeWith_lenCheck_of_ne {result : State → State} (h : s.rxlen.toNat ≠ 10) :
    s.decodeWith State.lenCheck result = { s.clearResults with resFail := .len } := by
  have hfail : s.lenCheck ≠ .none := s.lenCheck_eq_none_iff.not.2 h
  rw [State.decodeWith_of_fail hfail, State.lenCheck_clearResults, State.lenCheck_of_ne h]

/-! ### DECODE.AUTO (R200, R201) -/

/-- The DECODE form of a response class (R23, R200). -/
def decoderOf : ResponseClass → Instr
  | .fw => .decodeFw
  | .mode => .decodeMode
  | .data => .decodeData

theorem State.decodeAutoBody_of_valid (h : s.lastcmdValid = true) :
    s.decodeAutoBody = bodyOf (decoderOf s.config.catalog[s.lastcmd].cls) s := by
  rw [State.decodeAutoBody, if_pos h]
  cases s.config.catalog[s.lastcmd].cls <;> rfl

theorem State.decodeAutoBody_of_invalid (h : s.lastcmdValid = false) : s.decodeAutoBody = s.raise .noCmd := by
  rw [State.decodeAutoBody, h, if_neg Bool.false_ne_true]

/-- Once a command has been encoded, DECODE.AUTO is the decoder of its class, the busy check included (R103, R200). -/
theorem exec_decodeAuto_of_valid (h : s.lastcmdValid = true) :
    exec .decodeAuto s = exec (decoderOf s.config.catalog[s.lastcmd].cls) s := by
  rw [exec_eq_next, exec_eq_next, bodyOf, State.decodeAutoBody_of_valid h]
  cases s.config.catalog[s.lastcmd].cls <;> rfl

/-! ### What a decode leaves (R190)

RES_FAIL is the outcome of the check, passed or failed. So a decode is described by what its check says of the frame. -/

/-- The result registers of a failed decode: a reason, no kind, and every value field 0 (R190, R191). -/
def State.NoResult (t : State) : Prop :=
  t.resKind = .none ∧ t.resFail ≠ .none ∧ t.mode = .active ∧ t.fwDay = 0 ∧ t.fwMonth = 0 ∧ t.fwYear = 0 ∧
    t.pm25Raw = 0 ∧ t.pm10Raw = 0

/-- A reason is true of the frame held: LEN exactly when the length is not 10, and HEAD, TAIL and ID only of a byte that
differs (R149, R150). -/
def State.ReasonHolds (s : State) (r : ResFail) : Prop :=
  (r = .len ↔ s.rxlen.toNat ≠ 10) ∧ (r = .head → s.rxbuf[0] ≠ 0xAA) ∧ (r = .tail → s.rxbuf[9] ≠ 0xAB) ∧
    (r = .id → s.rxbuf[1] ≠ 0xC0)

/-- What a decode in state `s` may leave in `t`: no error, no result or a result without a reason, and a true reason
(R190). -/
def State.DecodeOutcome (s t : State) : Prop :=
  t.err = .ok ∧ (t.NoResult ∨ (t.resKind ≠ .none ∧ t.resFail = .none)) ∧ s.ReasonHolds t.resFail

theorem State.reasonHolds_lenCheck : s.ReasonHolds s.lenCheck := by
  by_cases h : s.rxlen.toNat = 10
  · rw [s.lenCheck_eq_none_iff.2 h]
    simp [State.ReasonHolds, h]
  · rw [State.lenCheck_of_ne h]
    simp [State.ReasonHolds, h]

theorem State.reasonHolds_dataCheck : s.ReasonHolds s.dataCheck := by
  unfold State.dataCheck State.ReasonHolds
  split_ifs <;> simp_all

/-- A decoder whose check is true of the frame, and whose result sets a kind and keeps ERR and RES_FAIL (R190). -/
theorem State.decodeWith_outcome {check : State → ResFail} {result : State → State}
    (hreason : s.ReasonHolds (check s.clearResults)) (herr : ∀ u, (result u).err = u.err)
    (hfail : ∀ u, (result u).resFail = u.resFail) (hkind : ∀ u, (result u).resKind ≠ .none) :
    s.DecodeOutcome (s.decodeWith check result) := by
  refine ⟨s.decodeWith_err check herr, ?_⟩
  rcases s.decodeWith_cases check result with ⟨hpass, h⟩ | ⟨hne, h⟩
  · rw [hpass] at hreason
    rw [h, hfail]
    exact ⟨.inr ⟨hkind _, rfl⟩, hreason⟩
  · rw [h]
    exact ⟨.inl ⟨rfl, hne, rfl, rfl, rfl, rfl, rfl, rfl⟩, hreason⟩

theorem State.decodeFwBody_outcome : s.DecodeOutcome s.decodeFwBody :=
  State.decodeWith_outcome State.reasonHolds_lenCheck State.fwResult_err State.fwResult_resFail fun _ => nofun

theorem State.decodeModeBody_outcome : s.DecodeOutcome s.decodeModeBody :=
  State.decodeWith_outcome State.reasonHolds_lenCheck State.modeResult_err State.modeResult_resFail fun _ => nofun

theorem State.decodeDataBody_outcome : s.DecodeOutcome s.decodeDataBody :=
  State.decodeWith_outcome State.reasonHolds_dataCheck State.dataResult_err State.dataResult_resFail fun _ => nofun

theorem State.decodeAutoBody_outcome (h : s.lastcmdValid = true) : s.DecodeOutcome s.decodeAutoBody := by
  rw [State.decodeAutoBody_of_valid h]
  cases s.config.catalog[s.lastcmd].cls with
  | fw => exact State.decodeFwBody_outcome
  | mode => exact State.decodeModeBody_outcome
  | data => exact State.decodeDataBody_outcome

end

/-! ### The statements -/

/-- Settles O41, form by form: each performs its body, which has the outcome of a decode. -/
theorem failedDecodesAreNoErrors : Obligations.FailedDecodesAreNoErrors := by
  unfold Obligations.FailedDecodesAreNoErrors
  intro d s hd hidle hvalid
  simp only [List.mem_cons, List.not_mem_nil, or_false] at hd
  rcases hd with rfl | rfl | rfl | rfl
  · exact ⟨_, exec_of_free _ hidle, State.decodeAutoBody_outcome (hvalid rfl)⟩
  · exact ⟨_, exec_of_free _ hidle, State.decodeFwBody_outcome⟩
  · exact ⟨_, exec_of_free _ hidle, State.decodeModeBody_outcome⟩
  · exact ⟨_, exec_of_free _ hidle, State.decodeDataBody_outcome⟩

/-- Settles O36: the length decides, and the result is written over cleared results. -/
theorem decodeFwReadsThreeBytes : Obligations.DecodeFwReadsThreeBytes := by
  unfold Obligations.DecodeFwReadsThreeBytes
  refine ⟨fun s hidle hlen => ?date, fun s hidle hlen => ?length, fun s => exec_of_busy .decodeFw,
    fun s => opEvent_of_decode_ok s rfl, fun w s => opEvent_of_op_three_reserved⟩
  case date => exact (exec_of_free .decodeFw hidle).trans (congrArg _ (State.decodeWith_lenCheck_of_eq hlen))
  case length => exact (exec_of_free .decodeFw hidle).trans (congrArg _ (State.decodeWith_lenCheck_of_ne hlen))

/-- Settles O37: the length decides, and the result is written over cleared results. -/
theorem decodeModeMapsByteFour : Obligations.DecodeModeMapsByteFour := by
  unfold Obligations.DecodeModeMapsByteFour
  refine ⟨fun s hidle hlen => ?mode, fun s hidle hlen => ?length, fun s => exec_of_busy .decodeMode,
    fun s => opEvent_of_decode_ok s rfl, fun w s => opEvent_of_op_three_reserved⟩
  case mode => exact (exec_of_free .decodeMode hidle).trans (congrArg _ (State.decodeWith_lenCheck_of_eq hlen))
  case length => exact (exec_of_free .decodeMode hidle).trans (congrArg _ (State.decodeWith_lenCheck_of_ne hlen))

/-- Settles O39: a valid LASTCMD makes it the decoder of its class, any other raises NO_CMD. -/
theorem decodeAutoDispatchesOnTheLastCommand : Obligations.DecodeAutoDispatchesOnTheLastCommand := by
  unfold Obligations.DecodeAutoDispatchesOnTheLastCommand
  refine ⟨fun s hidle hvalid => ⟨?dispatch, _, exec_of_free .decodeAuto hidle, ?errOk⟩,
    fun s hidle hinvalid => ?noCmd, fun s => exec_of_busy .decodeAuto, fun s => opEvent_of_decode_ok s rfl,
    fun w s => opEvent_of_op_three_reserved⟩
  case dispatch =>
    rw [exec_decodeAuto_of_valid hvalid]
    cases s.config.catalog[s.lastcmd].cls <;> rfl
  case errOk => exact (State.decodeAutoBody_outcome hvalid).1
  case noCmd => exact (exec_of_free .decodeAuto hidle).trans (congrArg _ (State.decodeAutoBody_of_invalid hinvalid))

end Sys2Proof.Machine
end

section
/-! The family of 60_exceptions.md: errors are precise (R220). Raising an error writes ERR and nothing else, and the
events of the surroundings never read ERR, so they commute with it; and the body of an operation that writes ERR either
ends with ERR = OK or raises from the state before it. -/

namespace Sys2Proof.Machine

/-! ### The line and tick events do not read ERR (R220) -/

section
variable (s : State) (c : ErrCode)

theorem State.endCheck_raise : (s.raise c).endCheck = s.endCheck.raise c := by
  unfold State.endCheck
  rw [apply_ite (State.raise c), apply_ite (State.raise c)]
  rfl

theorem State.resync_raise : (s.raise c).resync = s.resync.raise c := by
  unfold State.resync
  rw [apply_ite (State.raise c)]
  rfl

theorem State.rxByte_raise (b : Byte) : State.rxByte b (s.raise c) = (s.rxByte b).raise c := by
  have happend : (s.raise c).appendByte b = (s.appendByte b).raise c := rfl
  rw [State.rxByte, State.rxByte, happend, State.resync_raise, State.endCheck_raise]

theorem State.rxEvent_raise : (s.raise c).rxEvent = s.rxEvent.raise c := by
  unfold State.rxEvent
  rw [State.raise_rxLine]
  cases s.rxLine with
  | nil => rfl
  | cons b rest =>
    rw [apply_ite (State.raise c), ← State.rxByte_raise]
    rfl

theorem State.txEvent_raise : (s.raise c).txEvent = s.txEvent.raise c := by
  unfold State.txEvent
  rw [apply_ite (State.raise c)]
  rfl

theorem State.tickEvent_raise : (s.raise c).tickEvent = s.tickEvent.raise c := by
  unfold State.tickEvent
  rw [apply_ite (State.raise c), ← State.endCheck_raise]
  rfl

/-! ### The line and tick events leave ERR alone (R127, R165, R168) -/

theorem State.rxEvent_err : s.rxEvent.err = s.err := by
  rcases s.rxEvent_cases with ⟨-, h⟩ | ⟨b, rest, -, -, h⟩
  · rw [h]
  · rw [h, State.rxByte, State.endCheck_err, State.resync_err, State.appendByte_err]

theorem State.txEvent_err : s.txEvent.err = s.err := by
  rcases s.txEvent_cases with ⟨-, h⟩ | ⟨-, h⟩ <;> rw [h]

theorem State.tickEvent_err : s.tickEvent.err = s.err := by
  rcases s.tickEvent_cases with ⟨-, h⟩ | ⟨-, h⟩
  · rw [h]
  · rw [h, State.endCheck_err]

end

/-! ### What an operation word leaves (R100, R220) -/

/-- No operation word stops the block. -/
theorem opEvent_eq_next (w : Word) (s : State) : ∃ t, opEvent w s = .next t := by
  cases hdecode : decode w with
  | error e => exact ⟨_, opEvent_of_decode_error s hdecode⟩
  | ok i => exact ⟨_, (opEvent_of_decode_ok s hdecode).trans (exec_eq_next i s)⟩

/-- The body of an operation that writes ERR succeeds, or raises from the state before it (R122, R160, R161, R190,
R201). -/
theorem bodyOf_ok_or_raise {i : Instr} {s : State} (hwrites : i ≠ .nop ∧ ∀ r, i ≠ .rdreg r) :
    (bodyOf i s).err = .ok ∨ ∃ e, bodyOf i s = s.raise e := by
  obtain ⟨hnop, hrdreg⟩ := hwrites
  cases i with
  | nop => exact absurd rfl hnop
  | rdreg r => exact absurd rfl (hrdreg r)
  | encode cmd =>
    rcases s.encodeBody_cases cmd with ⟨_, h⟩ | ⟨-, h⟩
    · exact .inl (by rw [bodyOf, h])
    · exact .inr ⟨_, h⟩
  | collect expid target deadline =>
    rcases s.collectBody_cases expid target deadline with ⟨-, h⟩ | ⟨-, h⟩
    · exact .inl (by rw [bodyOf, h, State.endCheck_err, State.startReader])
    · exact .inr ⟨_, h⟩
  | decodeAuto =>
    cases hvalid : s.lastcmdValid with
    | false => exact .inr ⟨_, State.decodeAutoBody_of_invalid hvalid⟩
    | true => exact .inl (State.decodeAutoBody_outcome hvalid).1
  | decodeFw => exact .inl s.decodeFwBody_err
  | decodeMode => exact .inl s.decodeModeBody_err
  | decodeData => exact .inl s.decodeDataBody_err

/-- A word that is not NOP or RDREG succeeds, or raises ILLEGAL_OP, BUSY or its form's operand error (R220, R222). -/
theorem opEvent_ok_or_raise {w : Word} {s t : State} (h : opEvent w s = .next t)
    (hwrites : ∀ i, decode w = .ok i → i ≠ .nop ∧ ∀ r, i ≠ .rdreg r) : t.err = .ok ∨ ∃ e, t = s.raise e := by
  cases hdecode : decode w with
  | error e =>
    rw [opEvent_of_decode_error s hdecode] at h
    cases h
    exact .inr ⟨_, rfl⟩
  | ok i =>
    rw [opEvent_of_decode_ok s hdecode] at h
    rcases exec_cases h with ⟨-, rfl⟩ | ⟨-, rfl⟩
    · exact .inr ⟨_, rfl⟩
    · exact bodyOf_ok_or_raise (hwrites i hdecode)

/-! ### The statement -/

/-- Settles O10: an operation that leaves an error has only raised it, and the line and tick events neither read ERR nor
write it. -/
theorem errorsArePrecise : Obligations.ErrorsArePrecise := by
  unfold Obligations.ErrorsArePrecise
  refine ⟨opEvent_eq_next, fun w s t h hwrites herr => ?raised, fun i s t h hi => ?access,
    fun e s t c he h => ?unaffected, fun s t h => ?kept, fun s t h => ?reset⟩
  case raised =>
    rcases opEvent_ok_or_raise h hwrites with hok | ⟨e, rfl⟩
    · exact absurd hok herr
    · rfl
  case access =>
    rcases hi with rfl | ⟨r, rfl⟩
    · rw [exec_nop] at h
      cases h
      rfl
    · rw [exec_rdreg] at h
      cases h
      rfl
  case unaffected =>
    rcases he with rfl | rfl | rfl <;> cases h
    · exact congrArg _ (s.rxEvent_raise c)
    · exact congrArg _ (s.txEvent_raise c)
    · exact congrArg _ (s.tickEvent_raise c)
  case kept =>
    rcases h with h | h | h | h <;> cases h
    · exact s.rxEvent_err
    · exact s.txEvent_err
    · exact s.tickEvent_err
    · rfl
  case reset =>
    cases h
    exact s.resetEvent_err

end Sys2Proof.Machine
end

section
/-! The words of 30_encoding.md, both ways: an operation is read back from its word (R90), a word is written back from
its operation, operands are the numbers the word's bits hold (R88), and the assembler writes the numbers of its line
(R93). First the operands a word holds, which with the fields its form fixes determine both the operation and the word;
then what the assembler accepts; the statements are put together from these. -/

namespace Sys2Proof

/-! ### The operands of a word (R88) -/

/-- The operands of an operation are the fields of the word (R88). -/
def Instr.HoldsOperands : Instr → Word → Prop
  | .encode cmd, w => cmdField w = cmd
  | .collect expid target deadline, w => expidField w = expid ∧ targetField w = target ∧ deadlineField w = deadline
  | .rdreg reg, w => regField w = reg.number
  | .nop, _ | .decodeAuto, _ | .decodeFw, _ | .decodeMode, _ | .decodeData, _ => True

theorem decodeForm_holdsOperands (kind : BitVec 2) (w : Word) : (decodeForm kind).HoldsOperands w := by
  unfold decodeForm
  split <;> trivial

theorem holdsOperands_of_decode {w : Word} {i : Instr} (h : decode w = .ok i) : i.HoldsOperands w := by
  rcases opField_cases w with hop | hop | hop | hop | hop | hop
  · simp only [decode_of_op_zero hop] at h
    split at h <;> cases h
    trivial
  · simp only [decode_of_op_one hop] at h
    split at h <;> cases h
    rfl
  · simp only [decode_of_op_two hop] at h
    split at h <;> cases h
    exact ⟨rfl, rfl, rfl⟩
  · simp only [decode_of_op_three hop] at h
    split at h <;> cases h
    exact decodeForm_holdsOperands _ w
  · simp only [decode_of_op_four hop] at h
    split at h <;> cases h
    exact (Reg.number_ofNumber _).symm
  · simp [decode_of_five_le_op hop] at h

/-- The fields of a form and its operands determine the operation (R90). -/
theorem decode_eq_of_fields {w : Word} {i : Instr} (hfix : i.FixedFields w) (hops : i.HoldsOperands w) :
    decode w = .ok i := by
  cases i with
  | nop => rw [decode_of_op_zero hfix.1, if_pos hfix.2]
  | encode cmd =>
    cases hops
    rw [decode_of_op_one hfix.1, if_pos hfix.2]
  | collect expid target deadline =>
    obtain ⟨rfl, rfl, rfl⟩ := hops
    rw [decode_of_op_two hfix.1, if_pos hfix.2]
  | rdreg reg => rw [decode_of_op_four hfix.1, if_pos hfix.2, hops, Reg.ofNumber_number]
  | decodeAuto | decodeFw | decodeMode | decodeData =>
    obtain ⟨hop, hkind, hr⟩ := hfix
    rw [decode_of_op_three hop, if_pos hr, hkind]
    rfl

theorem bits_eq_of_field_eq {v k n : Nat} {x y : BitVec v} (h : x.extractLsb' k n = y.extractLsb' k n) :
    x.toNat / 2 ^ k % 2 ^ n = y.toNat / 2 ^ k % 2 ^ n := by
  rw [← field_toNat, h, field_toNat]

/-- They determine the word too: two words that agree in every field are one number (R83 to R87). -/
theorem word_eq_of_fields {w v : Word} {i : Instr} (hw : i.FixedFields w) (hwo : i.HoldsOperands w)
    (hv : i.FixedFields v) (hvo : i.HoldsOperands v) : w = v := by
  apply BitVec.eq_of_toNat_eq
  cases i with
  | nop =>
    obtain ⟨hop, hr⟩ := hv
    have hop := bits_eq_of_field_eq (hw.1.trans hop.symm)
    have hr := bits_eq_of_field_eq (hw.2.trans hr.symm)
    omega
  | encode cmd | rdreg reg =>
    obtain ⟨hop, hr⟩ := hv
    have hop := bits_eq_of_field_eq (hw.1.trans hop.symm)
    have hr := bits_eq_of_field_eq (hw.2.trans hr.symm)
    have hoperand := bits_eq_of_field_eq (hwo.trans hvo.symm)
    omega
  | collect expid target deadline =>
    obtain ⟨hop, hr⟩ := hv
    obtain ⟨hexpid, htarget, hdeadline⟩ := hwo
    obtain ⟨rfl, rfl, rfl⟩ := hvo
    have hop := bits_eq_of_field_eq (hw.1.trans hop.symm)
    have hr := bits_eq_of_field_eq (hw.2.trans hr.symm)
    have hexpid := bits_eq_of_field_eq hexpid
    have htarget := bits_eq_of_field_eq htarget
    have hdeadline := bits_eq_of_field_eq (n := 12) hdeadline
    omega
  | decodeAuto | decodeFw | decodeMode | decodeData =>
    obtain ⟨hop, hkind, hr⟩ := hw
    obtain ⟨hop', hkind', hr'⟩ := hv
    have hop := bits_eq_of_field_eq (hop.trans hop'.symm)
    have hkind := bits_eq_of_field_eq (hkind.trans hkind'.symm)
    have hr := bits_eq_of_field_eq (hr.trans hr'.symm)
    omega

/-! ### The word of an operation (R83 to R87) -/

theorem fixedFields_encode (i : Instr) : i.FixedFields (encode i) := by
  refine (i.row_selects_iff _).1 ?_
  cases i with
  | nop => exact Laws.TableRow.nop
  | encode cmd => exact Laws.TableRow.encode cmd
  | collect expid target deadline => exact Laws.TableRow.collect expid target deadline
  | decodeAuto => exact Laws.TableRow.decodeAuto
  | decodeFw => exact Laws.TableRow.decodeFw
  | decodeMode => exact Laws.TableRow.decodeMode
  | decodeData => exact Laws.TableRow.decodeData
  | rdreg reg => exact Laws.TableRow.rdreg reg

theorem field_eq_of_toNat {v len start : Nat} {x : BitVec v} {y : BitVec len}
    (h : x.toNat / 2 ^ start % 2 ^ len = y.toNat) : x.extractLsb' start len = y :=
  BitVec.eq_of_toNat_eq (by rw [field_toNat, h])

theorem holdsOperands_encode (i : Instr) : i.HoldsOperands (encode i) := by
  cases i with
  | nop | decodeAuto | decodeFw | decodeMode | decodeData => trivial
  | encode cmd =>
    refine field_eq_of_toNat ?_
    rw [encode_encode_toNat]
    omega
  | collect expid target deadline =>
    refine ⟨field_eq_of_toNat ?_, field_eq_of_toNat ?_, field_eq_of_toNat (len := 12) ?_⟩
    all_goals
      rw [encode_collect_toNat]
      omega
  | rdreg reg =>
    refine field_eq_of_toNat ?_
    rw [encode_rdreg_toNat]
    omega

theorem decode_encode (i : Instr) : decode (encode i) = .ok i :=
  decode_eq_of_fields (fixedFields_encode i) (holdsOperands_encode i)

theorem encode_of_decode {w : Word} {i : Instr} (h : decode w = .ok i) : encode i = w :=
  word_eq_of_fields (fixedFields_encode i) (holdsOperands_encode i) (fixedFields_of_decode h)
    (holdsOperands_of_decode h)

namespace Machine

/-! ### The lines the assembler accepts (R93, R94) -/

/-- A line whose operands are in range has an expansion: COLLECT.FOR finds its catalog entry (R94, log 13). -/
theorem expandLine_isSome (cfg : Config) {line : AsmLine} (h : line.wf = true) :
    (expandLine cfg line).isSome = true := by
  cases line with
  | collectFor cmd d =>
    have hin : cmd.inCatalog = true := (Bool.and_eq_true_iff.1 h).1
    have hcode : commandCode cmd < nCmd := by
      cases cmd with
      | code n => exact of_decide_eq_true hin
      | name c => exact c.isLt
    simp [expandLine, commandEntry, hcode]
  | nop | encode | collect | decodeAuto | decodeFw | decodeMode | decodeData | rdreg | decode | read => rfl

theorem assemble_isSome (cfg : Config) (line : AsmLine) : (assemble cfg line).isSome = line.wf := by
  cases h : line.wf with
  | true => rw [assemble_of_wf h, expandLine_isSome cfg h]
  | false => rw [assemble, h, if_neg Bool.false_ne_true]; rfl

/-- What is assembled is in range, and is the line's expansion (R93). -/
theorem assemble_eq_some {cfg : Config} {line : AsmLine} {i : Instr} (h : assemble cfg line = some i) :
    line.wf = true ∧ expandLine cfg line = some i := by
  have hwf : line.wf = true := by rw [← assemble_isSome cfg, h]; rfl
  exact ⟨hwf, assemble_of_wf hwf ▸ h⟩

/-! ### The statements -/

/-- Settles O1: the word of an operation has the fields of its form and holds its operands. -/
theorem decodeOfEncodeIsTheOperation : Obligations.DecodeOfEncodeIsTheOperation := by
  unfold Obligations.DecodeOfEncodeIsTheOperation
  exact decode_encode

/-- Settles O2: a decoded word and the word of its operation agree in every field. -/
theorem encodeOfDecodeIsTheWord : Obligations.EncodeOfDecodeIsTheWord := by
  unfold Obligations.EncodeOfDecodeIsTheWord
  exact fun w i => encode_of_decode

/-- Settles O4: an operand is its field, and a field is a quotient and a remainder. -/
theorem operandsAreTheWordsBits : Obligations.OperandsAreTheWordsBits := by
  unfold Obligations.OperandsAreTheWordsBits
  refine ⟨fun w cmd h => ?encode, fun w expid target deadline h => ?collect, fun w r h => ?rdreg⟩
  case encode =>
    obtain rfl : cmdField w = cmd := holdsOperands_of_decode h
    exact field_toNat w 4 3
  case collect =>
    obtain ⟨rfl, rfl, rfl⟩ := holdsOperands_of_decode h
    exact ⟨field_toNat w 8 8, field_toNat w 16 4, field_toNat w 20 12⟩
  case rdreg =>
    have hreg : regField w = r.number := holdsOperands_of_decode h
    exact hreg ▸ field_toNat w 4 4

/-- Settles O6: each word is the word of its operation. -/
theorem specExampleWordsDecode : Obligations.SpecExampleWordsDecode := by
  unfold Obligations.SpecExampleWordsDecode
  exact ⟨decode_encode .nop, decode_encode (.encode 3), decode_encode (.collect 0xC0 10 1000),
    decode_encode .decodeAuto, decode_encode .decodeFw, decode_encode .decodeMode, decode_encode .decodeData,
    decode_encode (.rdreg .txinfo), decode_encode (.rdreg .pm)⟩

/-- Settles O58: what is assembled is the expansion of a line in range, so no number is truncated. -/
theorem assemblerRefusesOutOfRange : Obligations.AssemblerRefusesOutOfRange := by
  unfold Obligations.AssemblerRefusesOutOfRange
  refine ⟨assemble_isSome, fun cfg n => ?encode, fun cfg e t d i h => ?collect, fun cfg n i h => ?rdreg⟩
  case encode =>
    have hwf : (AsmLine.encode (.code n)).wf = true ↔ n ≤ 7 := by simp [AsmLine.wf, CmdOperand.fits]; omega
    exact if_congr hwf rfl rfl
  case collect =>
    obtain ⟨hwf, hi⟩ := assemble_eq_some h
    cases hi
    simp only [AsmLine.wf, Bool.and_eq_true, decide_eq_true_eq, deadlineW] at hwf
    obtain ⟨⟨he, ht⟩, hd⟩ := hwf
    refine ⟨by omega, by omega, by omega, ?_⟩
    rw [encode_collect_toNat, BitVec.toNat_ofNat, BitVec.toNat_ofNat, BitVec.toNat_ofNat, Nat.mod_eq_of_lt he,
      Nat.mod_eq_of_lt ht, Nat.mod_eq_of_lt hd]
  case rdreg =>
    obtain ⟨hwf, hi⟩ := assemble_eq_some h
    cases hi
    have hn : n < 2 ^ 4 := of_decide_eq_true hwf
    refine ⟨by omega, ?_⟩
    rw [encode_rdreg_toNat, registerOf, Reg.number_ofNumber, BitVec.toNat_ofNat, Nat.mod_eq_of_lt hn]
    rfl

end Machine
end Sys2Proof
end

section
/-! What each operation leaves unchanged (R22, R122, R160, R201, R68), and the code it leaves in ERR (R222). Raising an
error reaches ERR alone. A decode reaches only the result registers and ERR, which `clearResults` sets to fixed values:
so two states between which only decodes lie are the same once their results are cleared, and all that a decode keeps,
reads and repeats follows from that one equation. -/

namespace Sys2Proof.Machine

/-! ### States that agree -/

section
variable (s : State)

theorem State.SameTransmitter.refl : s.SameTransmitter s := ⟨rfl, rfl, rfl, rfl⟩

theorem State.SameResults.refl : s.SameResults s := ⟨rfl, rfl, rfl, rfl, rfl, rfl, rfl, rfl⟩

theorem State.SameSurroundings.refl : s.SameSurroundings s := ⟨rfl, rfl, rfl⟩

theorem State.sameTransmitter_raise (e : ErrCode) : s.SameTransmitter (s.raise e) := ⟨rfl, rfl, rfl, rfl⟩

theorem State.sameResults_raise (e : ErrCode) : s.SameResults (s.raise e) := ⟨rfl, rfl, rfl, rfl, rfl, rfl, rfl, rfl⟩

theorem State.sameSurroundings_raise (e : ErrCode) : s.SameSurroundings (s.raise e) := ⟨rfl, rfl, rfl⟩

/-! ### ENCODE and COLLECT (R122, R160) -/

/-- ENCODE's body reaches the transmitter and ERR alone. -/
theorem State.encodeBody_frame (cmd : BitVec 3) :
    s.SameReader (s.encodeBody cmd) ∧ s.SameResults (s.encodeBody cmd) ∧ s.SameSurroundings (s.encodeBody cmd) ∧
      (s.encodeBody cmd).rdata = s.rdata ∧ (s.encodeBody cmd).config = s.config := by
  rcases s.encodeBody_cases cmd with ⟨_, h⟩ | ⟨-, h⟩
  · rw [h]
    exact ⟨⟨rfl, rfl, rfl, rfl, rfl, rfl, rfl, rfl, rfl⟩, ⟨rfl, rfl, rfl, rfl, rfl, rfl, rfl, rfl⟩,
      ⟨rfl, rfl, rfl⟩, rfl, rfl⟩
  · rw [h]
    exact ⟨s.sameReader_raise _, s.sameResults_raise _, s.sameSurroundings_raise _, rfl, rfl⟩

/-- COLLECT's body reaches the reader and ERR alone. -/
theorem State.collectBody_frame (expid : Byte) (target : BitVec 4) (deadline : BitVec deadlineW) :
    s.SameTransmitter (s.collectBody expid target deadline) ∧ s.SameResults (s.collectBody expid target deadline) ∧
      s.SameSurroundings (s.collectBody expid target deadline) ∧
      (s.collectBody expid target deadline).rdata = s.rdata ∧
      (s.collectBody expid target deadline).config = s.config := by
  rcases s.collectBody_cases expid target deadline with ⟨-, h⟩ | ⟨-, h⟩
  · rw [h, s.endCheck_startReader]
    exact ⟨⟨rfl, rfl, rfl, rfl⟩, ⟨rfl, rfl, rfl, rfl, rfl, rfl, rfl, rfl⟩, ⟨rfl, rfl, rfl⟩, rfl, rfl⟩
  · rw [h]
    exact ⟨s.sameTransmitter_raise _, s.sameResults_raise _, s.sameSurroundings_raise _, rfl, rfl⟩

end

/-- An operation other than NOP and RDREG leaves ERR = OK, or has only raised an error (R220). -/
theorem exec_ok_or_raise {i : Instr} {s t : State} (hwrites : i ≠ .nop ∧ ∀ r, i ≠ .rdreg r) (h : exec i s = .next t) :
    t.err = .ok ∨ ∃ e, t = s.raise e := by
  rcases exec_cases h with ⟨-, rfl⟩ | ⟨-, rfl⟩
  · exact .inr ⟨.busy, rfl⟩
  · exact bodyOf_ok_or_raise hwrites

/-! ### DECODE: the same state once the results are cleared (R190, R191) -/

/-- The four DECODE forms (R86). -/
abbrev decodeForms : List Instr := [.decodeAuto, .decodeFw, .decodeMode, .decodeData]

theorem ne_access_of_decodeForm {d : Instr} (hd : d ∈ decodeForms) : d ≠ .nop ∧ ∀ r, d ≠ .rdreg r :=
  ⟨fun h => by simp [h] at hd, fun r h => by simp [h] at hd⟩

theorem refusedBusy_decodeForm {d : Instr} (hd : d ∈ decodeForms) (s : State) : s.refusedBusy d = s.rxBusy := by
  simp only [List.mem_cons, List.not_mem_nil, or_false] at hd
  rcases hd with rfl | rfl | rfl | rfl <;> rfl

section
variable {s t : State}

/-- Such states agree in whatever does not read the result registers. -/
theorem State.eq_of_clearResults {α : Type} (h : t.clearResults = s.clearResults) (f : State → α)
    (hf : ∀ u : State, f u.clearResults = f u := by intro; rfl) : f s = f t := by
  rw [← hf s, ← h, hf]

theorem State.sameReader_of_clearResults (h : t.clearResults = s.clearResults) : s.SameReader t where
  rxbuf := State.eq_of_clearResults h State.rxbuf
  rxlen := State.eq_of_clearResults h State.rxlen
  target := State.eq_of_clearResults h State.target
  expid := State.eq_of_clearResults h State.expid
  deadline := State.eq_of_clearResults h State.deadline
  elapsed := State.eq_of_clearResults h State.elapsed
  rxBusy := State.eq_of_clearResults h State.rxBusy
  doneCause := State.eq_of_clearResults h State.doneCause
  resyncCnt := State.eq_of_clearResults h State.resyncCnt

theorem State.sameTransmitter_of_clearResults (h : t.clearResults = s.clearResults) : s.SameTransmitter t where
  txbuf := State.eq_of_clearResults h State.txbuf
  txptr := State.eq_of_clearResults h State.txptr
  lastcmd := State.eq_of_clearResults h State.lastcmd
  lastcmdValid := State.eq_of_clearResults h State.lastcmdValid

theorem State.sameSurroundings_of_clearResults (h : t.clearResults = s.clearResults) : s.SameSurroundings t where
  rxLine := State.eq_of_clearResults h State.rxLine
  txLine := State.eq_of_clearResults h State.txLine
  sched := State.eq_of_clearResults h State.sched

theorem State.decodeWith_clearResults {check : State → ResFail} {result : State → State}
    (hresult : ∀ u, (result u).clearResults = u.clearResults) :
    (s.decodeWith check result).clearResults = s.clearResults := by
  rcases s.decodeWith_cases check result with ⟨-, h⟩ | ⟨-, h⟩
  · rw [h, hresult]; rfl
  · rw [h]; rfl

/-- A decoder starts by clearing the results, so it does not read them (R191). -/
theorem State.decodeWith_congr {check : State → ResFail} {result : State → State}
    (h : t.clearResults = s.clearResults) : t.decodeWith check result = s.decodeWith check result := by
  rw [State.decodeWith, State.decodeWith, h]

theorem State.decodeFwBody_clearResults : s.decodeFwBody.clearResults = s.clearResults :=
  State.decodeWith_clearResults fun _ => rfl

theorem State.decodeModeBody_clearResults : s.decodeModeBody.clearResults = s.clearResults :=
  State.decodeWith_clearResults fun _ => rfl

theorem State.decodeDataBody_clearResults : s.decodeDataBody.clearResults = s.clearResults :=
  State.decodeWith_clearResults fun _ => rfl

theorem State.decodeAutoBody_clearResults : s.decodeAutoBody.clearResults = s.clearResults := by
  rcases s.decodeAutoBody_cases with ⟨-, h⟩ | ⟨-, h | h | h⟩
  · rw [h]; rfl
  · rw [h, State.decodeFwBody_clearResults]
  · rw [h, State.decodeModeBody_clearResults]
  · rw [h, State.decodeDataBody_clearResults]

theorem bodyOf_clearResults {d : Instr} (hd : d ∈ decodeForms) : (bodyOf d s).clearResults = s.clearResults := by
  simp only [List.mem_cons, List.not_mem_nil, or_false] at hd
  rcases hd with rfl | rfl | rfl | rfl
  · exact State.decodeAutoBody_clearResults
  · exact State.decodeFwBody_clearResults
  · exact State.decodeModeBody_clearResults
  · exact State.decodeDataBody_clearResults

theorem exec_clearResults {d : Instr} (hd : d ∈ decodeForms) (h : exec d s = .next t) :
    t.clearResults = s.clearResults := by
  rcases exec_cases h with ⟨-, rfl⟩ | ⟨-, rfl⟩
  · rfl
  · exact bodyOf_clearResults hd

/-- DECODE.AUTO dispatches alike before and after it, as it keeps LASTCMD and the catalog (R200, R203). -/
theorem State.decodeAutoBody_repeat : s.decodeAutoBody.decodeAutoBody = s.decodeAutoBody := by
  cases hvalid : s.lastcmdValid with
  | false =>
    rw [State.decodeAutoBody_of_invalid hvalid]
    exact State.decodeAutoBody_of_invalid hvalid
  | true =>
    have hclear : s.decodeAutoBody.clearResults = s.clearResults := State.decodeAutoBody_clearResults
    have hvalid' : s.decodeAutoBody.lastcmdValid = true :=
      (State.eq_of_clearResults hclear State.lastcmdValid).symm.trans hvalid
    have hcls : s.decodeAutoBody.config.catalog[s.decodeAutoBody.lastcmd].cls = s.config.catalog[s.lastcmd].cls :=
      (State.eq_of_clearResults hclear fun u => u.config.catalog[u.lastcmd].cls).symm
    rw [State.decodeAutoBody_of_valid hvalid', hcls, State.decodeAutoBody_of_valid hvalid]
    rw [State.decodeAutoBody_of_valid hvalid] at hclear
    generalize s.config.catalog[s.lastcmd].cls = cls at hclear ⊢
    cases cls with
    | fw | mode | data => exact State.decodeWith_congr hclear

theorem bodyOf_repeat {d : Instr} (hd : d ∈ decodeForms) : bodyOf d (bodyOf d s) = bodyOf d s := by
  simp only [List.mem_cons, List.not_mem_nil, or_false] at hd
  rcases hd with rfl | rfl | rfl | rfl
  · exact State.decodeAutoBody_repeat
  · exact State.decodeWith_congr State.decodeFwBody_clearResults
  · exact State.decodeWith_congr State.decodeModeBody_clearResults
  · exact State.decodeWith_congr State.decodeDataBody_clearResults

/-! ### A decode over another buffer (R199) -/

/-- The block with another receive buffer. -/
def State.withRxbuf (buf : Vector Byte bufCap) (s : State) : State := { s with rxbuf := buf }

section
variable {buf : Vector Byte bufCap}

/-- A decoder whose check and whose result read the same in another buffer decodes it alike. -/
theorem State.decodeWith_withRxbuf {check : State → ResFail} {result : State → State}
    (hcheck : check (s.clearResults.withRxbuf buf) = check s.clearResults)
    (hresult : result (s.clearResults.withRxbuf buf) = (result s.clearResults).withRxbuf buf) :
    (s.withRxbuf buf).decodeWith check result = (s.decodeWith check result).withRxbuf buf := by
  by_cases hpass : check s.clearResults = .none
  · rw [State.decodeWith_of_pass hpass]
    exact (State.decodeWith_of_pass (hcheck.trans hpass)).trans hresult
  · rw [State.decodeWith_of_fail hpass, ← hcheck]
    exact State.decodeWith_of_fail (hcheck.trans_ne hpass)

theorem State.dataCheck_withRxbuf (h0 : buf[0] = s.rxbuf[0]) (h1 : buf[1] = s.rxbuf[1])
    (h9 : buf[tailOff] = s.rxbuf[tailOff]) : (s.withRxbuf buf).dataCheck = s.dataCheck := by
  simp only [State.dataCheck, State.withRxbuf, h0, h1, h9]

/-- A DECODE form whose body does alike over another buffer answers alike, busy or not. -/
theorem exec_withRxbuf {d : Instr} (hd : d ∈ decodeForms) {u : State}
    (hbody : bodyOf d (s.withRxbuf buf) = (bodyOf d s).withRxbuf buf) (ht : exec d s = .next t)
    (hu : exec d (s.withRxbuf buf) = .next u) : u = t.withRxbuf buf := by
  have hcell : (s.withRxbuf buf).refusedBusy d = s.refusedBusy d := by
    rw [refusedBusy_decodeForm hd, refusedBusy_decodeForm hd]
    rfl
  rcases exec_cases ht with ⟨hrefused, rfl⟩ | ⟨hfree, rfl⟩
  · rw [exec_of_busy d (hcell.trans hrefused)] at hu
    cases hu
    rfl
  · rw [exec_of_free d (hcell.trans hfree)] at hu
    cases hu
    exact hbody

end

end

/-! ### The code an operation leaves in ERR (R222) -/

/-- An operation against its cell `p` of the busy matrix: BUSY there, and elsewhere the code its body leaves (R222). -/
theorem exec_err {i : Instr} {s : State} {p : Prop} [Decidable p] {e : ErrCode} (hcell : s.refusedBusy i = true ↔ p)
    (hbody : (bodyOf i s).err = e) : ∃ t, exec i s = .next t ∧ t.err = if p then .busy else e := by
  refine ⟨_, exec_eq_next i s, ?_⟩
  rw [apply_ite State.err, hbody, State.raise_err]
  exact if_congr hcell rfl rfl

/-! ### The statements -/

/-- Settles O50: its body reaches the transmitter and ERR, and an operation that leaves an error has only raised it. -/
theorem encodeFrame : Obligations.EncodeFrame := by
  unfold Obligations.EncodeFrame
  intro cmd s t h
  have hraised : t.err ≠ .ok → s.SameTransmitter t := fun herr => by
    obtain ⟨e, rfl⟩ := (exec_ok_or_raise (by simp) h).resolve_left herr
    exact s.sameTransmitter_raise e
  rcases exec_cases h with ⟨-, rfl⟩ | ⟨-, rfl⟩
  · exact ⟨s.sameReader_raise _, s.sameResults_raise _, s.sameSurroundings_raise _, rfl, rfl, hraised⟩
  · obtain ⟨hreader, hresults, hlines, hrdata, hconfig⟩ := s.encodeBody_frame cmd
    exact ⟨hreader, hresults, hlines, hrdata, hconfig, hraised⟩

/-- Settles O51: its body reaches the reader and ERR, and an operation that leaves an error has only raised it. -/
theorem collectFrame : Obligations.CollectFrame := by
  unfold Obligations.CollectFrame
  intro expid target deadline s t h
  have hraised : t.err ≠ .ok → s.SameReader t := fun herr => by
    obtain ⟨e, rfl⟩ := (exec_ok_or_raise (by simp) h).resolve_left herr
    exact s.sameReader_raise e
  rcases exec_cases h with ⟨-, rfl⟩ | ⟨-, rfl⟩
  · exact ⟨s.sameTransmitter_raise _, s.sameResults_raise _, s.sameSurroundings_raise _, rfl, rfl, hraised⟩
  · obtain ⟨htransmitter, hresults, hlines, hrdata, hconfig⟩ := s.collectBody_frame expid target deadline
    exact ⟨htransmitter, hresults, hlines, hrdata, hconfig, hraised⟩

/-- Settles O52: the states before and after are the same once their results are cleared. -/
theorem decodeFrame : Obligations.DecodeFrame := by
  unfold Obligations.DecodeFrame
  intro d s t hd h
  have hclear : t.clearResults = s.clearResults := exec_clearResults hd h
  refine ⟨State.sameReader_of_clearResults hclear, State.sameTransmitter_of_clearResults hclear,
    State.sameSurroundings_of_clearResults hclear, (State.eq_of_clearResults hclear State.rdata).symm,
    (State.eq_of_clearResults hclear State.config).symm, fun herr => ?raised⟩
  case raised =>
    obtain ⟨e, rfl⟩ := (exec_ok_or_raise (ne_access_of_decodeForm hd) h).resolve_left herr
    exact s.sameResults_raise e

/-- Settles O53: NOP is the identity, RDREG writes RDATA, and no register shows RDATA. -/
theorem accessFrame : Obligations.AccessFrame := by
  unfold Obligations.AccessFrame
  intro i s t hi h
  rcases hi with rfl | ⟨r, rfl⟩
  · rw [exec_nop] at h
    cases h
    exact ⟨rfl, fun _ => rfl, fun _ => rfl⟩
  · rw [exec_rdreg] at h
    cases h
    exact ⟨rfl, nofun, fun r' => by cases r' <;> rfl⟩

/-- Settles O43: a decode repeats, as it reads nothing that a decode writes. -/
theorem decodesRepeat : Obligations.DecodesRepeat := by
  unfold Obligations.DecodesRepeat
  intro d s t hd h
  have hclear : t.clearResults = s.clearResults := exec_clearResults hd h
  refine ⟨(State.eq_of_clearResults hclear State.rxbuf).symm, (State.eq_of_clearResults hclear State.rxlen).symm,
    ?again⟩
  case again =>
    have hbusy : t.refusedBusy d = s.refusedBusy d := by
      rw [refusedBusy_decodeForm hd, refusedBusy_decodeForm hd]
      exact (State.eq_of_clearResults hclear State.rxBusy).symm
    rcases exec_cases h with ⟨hrefused, rfl⟩ | ⟨hfree, rfl⟩
    · exact exec_of_busy d (hbusy.trans hrefused)
    · rw [exec_of_free d (hbusy.trans hfree), bodyOf_repeat hd]

/-- Settles O42: the check and the result of each decoder read the same bytes in both buffers. -/
theorem decodersIgnoreUnreadBytes : Obligations.DecodersIgnoreUnreadBytes := by
  unfold Obligations.DecodersIgnoreUnreadBytes
  intro s buf
  refine ⟨fun hread t u => exec_withRxbuf (by simp) ?data, fun hread t u => exec_withRxbuf (by simp) ?mode,
    fun hday hmonth hyear t u => exec_withRxbuf (by simp) ?fw⟩
  case data =>
    have h0 := hread 0 (by decide)
    have h1 := hread 1 (by decide)
    have h2 := hread 2 (by decide)
    have h3 := hread 3 (by decide)
    have h4 := hread 4 (by decide)
    have h5 := hread 5 (by decide)
    have h9 := hread 9 (by decide)
    refine State.decodeWith_withRxbuf (State.dataCheck_withRxbuf (s := s.clearResults) h0 h1 h9) ?_
    simp_all [State.dataResult, State.withRxbuf]
  case mode =>
    refine State.decodeWith_withRxbuf rfl ?_
    simp [State.modeResult, State.withRxbuf, hread]
  case fw =>
    refine State.decodeWith_withRxbuf rfl ?_
    simp_all [State.fwResult, State.withRxbuf]

/-- Settles O40: an accepted ENCODE leaves the buffer, and a LASTCMD of its own command. -/
theorem autoFollowsTheLatestEncode : Obligations.AutoFollowsTheLatestEncode := by
  unfold Obligations.AutoFollowsTheLatestEncode
  intro cmd hcmd s t h herr
  rcases exec_cases h with ⟨-, rfl⟩ | ⟨-, rfl⟩
  · cases herr
  · rw [bodyOf, s.encodeBody_of_lt hcmd]
    refine ⟨rfl, rfl, ?_⟩
    rw [exec_decodeAuto_of_valid rfl]
    change exec (decoderOf s.config.catalog[cmd.toNat].cls) _ = _
    cases s.config.catalog[cmd.toNat].cls <;> rfl

/-- Settles O11: a word without a form raises ILLEGAL_OP, and every form has its cell of the busy matrix and the code of
its body. -/
theorem errFollowsThePrecedence : Obligations.ErrFollowsThePrecedence := by
  unfold Obligations.ErrFollowsThePrecedence
  intro w s
  cases hdecode : decode w with
  | error e => exact ⟨_, opEvent_of_decode_error s hdecode, rfl⟩
  | ok i =>
    rw [opEvent_of_decode_ok s hdecode]
    cases i with
    | nop => exact ⟨_, exec_nop s, rfl⟩
    | rdreg r => exact ⟨_, exec_rdreg r s, rfl⟩
    | encode cmd => exact exec_err (s.refusedBusy_encode_iff cmd) (s.encodeBody_err cmd)
    | collect expid target deadline =>
      exact exec_err (s.refusedBusy_collect_iff expid target deadline) (s.collectBody_err expid target deadline)
    | decodeAuto => exact exec_err Iff.rfl s.decodeAutoBody_err
    | decodeFw => exact exec_err Iff.rfl s.decodeFwBody_err
    | decodeMode => exact exec_err Iff.rfl s.decodeModeBody_err
    | decodeData => exact exec_err Iff.rfl s.decodeDataBody_err

end Sys2Proof.Machine
end

section
/-! Events, steps and cycles (R13, R14, R23, R31). Every event goes on, so what it leaves is a function of the state
before; no event reads or writes the schedule, so a run in a well-formed configuration is its events in order. First
what the line and tick events leave unchanged; then the state after an event and after several; then steps, runs and
cycles; the statements are put together from these. -/

namespace Sys2Proof.Machine

/-! ### The line and tick events (R22, R127, R165, R168) -/

section
variable (s : State)

theorem State.sameTransmitter_rxEvent : s.SameTransmitter s.rxEvent := by
  rcases s.rxEvent_cases with ⟨-, h⟩ | ⟨b, rest, -, -, h⟩
  · rw [h]; exact .refl s
  · rw [h]; constructor <;> simp [State.rxByte]

theorem State.sameResults_rxEvent : s.SameResults s.rxEvent := by
  rcases s.rxEvent_cases with ⟨-, h⟩ | ⟨b, rest, -, -, h⟩
  · rw [h]; exact .refl s
  · rw [h]; constructor <;> simp [State.rxByte]

theorem State.rxEvent_frame :
    s.rxEvent.rdata = s.rdata ∧ s.rxEvent.config = s.config ∧ s.rxEvent.txLine = s.txLine ∧
      s.rxEvent.sched = s.sched ∧ s.rxEvent.target = s.target ∧ s.rxEvent.expid = s.expid ∧
      s.rxEvent.deadline = s.deadline ∧ s.rxEvent.elapsed = s.elapsed := by
  rcases s.rxEvent_cases with ⟨-, h⟩ | ⟨b, rest, -, -, h⟩
  · simp [h]
  · simp [h, State.rxByte]

theorem State.rxEvent_of_untaken (h : s.rxBusy = false ∨ s.rxLine = []) : s.rxEvent = s := by
  rcases s.rxEvent_cases with ⟨-, hsame⟩ | ⟨b, rest, hbusy, hline, -⟩
  · exact hsame
  · simp [hbusy, hline] at h

section
variable {s}

theorem State.rxEvent_of_collecting {b : Byte} {rest : List Byte} (hbusy : s.rxBusy = true)
    (hline : s.rxLine = b :: rest) : s.rxEvent = State.rxByte b { s with rxLine := rest } :=
  Host.Outcome.next.inj (applyEvent_rx_of_collecting hbusy hline)

theorem State.tickEvent_of_collecting (hbusy : s.rxBusy = true) :
    s.tickEvent = State.endCheck { s with elapsed := s.elapsed + 1 } :=
  if_pos hbusy

theorem State.tickEvent_of_idle (hidle : s.rxBusy = false) : s.tickEvent = s :=
  if_neg (Bool.eq_false_iff.1 hidle)

end

theorem State.sameResults_txEvent : s.SameResults s.txEvent := by
  rcases s.txEvent_cases with ⟨-, h⟩ | ⟨-, h⟩
  · rw [h]; exact .refl s
  · rw [h]; exact ⟨rfl, rfl, rfl, rfl, rfl, rfl, rfl, rfl⟩

theorem State.txEvent_frame :
    s.txEvent.rdata = s.rdata ∧ s.txEvent.config = s.config ∧ s.txEvent.rxLine = s.rxLine ∧
      s.txEvent.sched = s.sched ∧ s.txEvent.txbuf = s.txbuf ∧ s.txEvent.lastcmd = s.lastcmd ∧
      s.txEvent.lastcmdValid = s.lastcmdValid := by
  rcases s.txEvent_cases with ⟨-, h⟩ | ⟨-, h⟩ <;> simp [h]

theorem State.txEvent_of_sending (h : s.txptr.toNat < 19) :
    s.txEvent = { s with txptr := s.txptr + 1, txLine := s.txLine ++ [s.txbuf[s.txptr.toNat]] } := by
  rw [State.txEvent, State.txValid, s.txBusy_iff.2 h, if_pos rfl, s.txData_of_lt h]

theorem State.txEvent_of_sent (h : 19 ≤ s.txptr.toNat) : s.txEvent = s := by
  rw [State.txEvent, State.txValid, s.txBusy_false_iff.2 h, if_neg Bool.false_ne_true]

theorem State.sameTransmitter_tickEvent : s.SameTransmitter s.tickEvent := by
  rcases s.tickEvent_cases with ⟨-, h⟩ | ⟨-, h⟩
  · rw [h]; exact .refl s
  · rw [h]; constructor <;> simp

theorem State.sameResults_tickEvent : s.SameResults s.tickEvent := by
  rcases s.tickEvent_cases with ⟨-, h⟩ | ⟨-, h⟩
  · rw [h]; exact .refl s
  · rw [h]; constructor <;> simp

theorem State.sameSurroundings_tickEvent : s.SameSurroundings s.tickEvent := by
  rcases s.tickEvent_cases with ⟨-, h⟩ | ⟨-, h⟩
  · rw [h]; exact .refl s
  · rw [h]; constructor <;> simp

theorem State.tickEvent_frame :
    s.tickEvent.rdata = s.rdata ∧ s.tickEvent.config = s.config ∧ s.tickEvent.rxbuf = s.rxbuf ∧
      s.tickEvent.rxlen = s.rxlen ∧ s.tickEvent.target = s.target ∧ s.tickEvent.expid = s.expid ∧
      s.tickEvent.deadline = s.deadline ∧ s.tickEvent.resyncCnt = s.resyncCnt := by
  rcases s.tickEvent_cases with ⟨-, h⟩ | ⟨-, h⟩ <;> simp [h]

end

/-! ### The bodies of the operations reach neither the configuration nor the surroundings (R22, R23) -/

theorem bodyOf_config (i : Instr) (s : State) : (bodyOf i s).config = s.config := by
  cases i with
  | nop | rdreg r => rfl
  | encode cmd =>
    obtain ⟨-, -, -, -, h⟩ := s.encodeBody_frame cmd
    exact h
  | collect expid target deadline =>
    obtain ⟨-, -, -, -, h⟩ := s.collectBody_frame expid target deadline
    exact h
  | decodeAuto | decodeFw | decodeMode | decodeData =>
    exact (State.eq_of_clearResults (bodyOf_clearResults (by simp)) State.config).symm

theorem sameSurroundings_bodyOf (i : Instr) (s : State) : s.SameSurroundings (bodyOf i s) := by
  cases i with
  | nop => exact .refl s
  | rdreg r => exact ⟨rfl, rfl, rfl⟩
  | encode cmd =>
    obtain ⟨-, -, h, -⟩ := s.encodeBody_frame cmd
    exact h
  | collect expid target deadline =>
    obtain ⟨-, -, h, -⟩ := s.collectBody_frame expid target deadline
    exact h
  | decodeAuto | decodeFw | decodeMode | decodeData =>
    exact State.sameSurroundings_of_clearResults (bodyOf_clearResults (by simp))

/-! ### The state after an event (R13)

No event stops the block (R220), so `applyEvent` and `applyEvents` answer the states these two functions give. -/

/-- The state after an event. -/
def State.afterEvent (s : State) : Event → State
  | .op w =>
    match decode w with
    | .error _ => s.raise .illegalOp
    | .ok i => if s.refusedBusy i then s.raise .busy else bodyOf i s
  | .rx => s.rxEvent
  | .tx => s.txEvent
  | .tick => s.tickEvent
  | .reset => s.resetEvent
  | .idle => s

/-- The state after some events, in their order. -/
def State.afterEvents (s : State) (es : List Event) : State := es.foldl State.afterEvent s

@[simp] theorem State.afterEvents_nil (s : State) : s.afterEvents [] = s := rfl

@[simp] theorem State.afterEvents_cons (s : State) (e : Event) (es : List Event) :
    s.afterEvents (e :: es) = (s.afterEvent e).afterEvents es := rfl

theorem State.afterEvents_append (s : State) (es fs : List Event) :
    s.afterEvents (es ++ fs) = (s.afterEvents es).afterEvents fs := List.foldl_append

theorem applyEvent_eq_next (e : Event) (s : State) : applyEvent e s = .next (s.afterEvent e) := by
  cases e with
  | op w =>
    simp only [applyEvent, opEvent, State.afterEvent]
    cases decode w with
    | error x => rfl
    | ok i => exact exec_eq_next i s
  | rx | tx | tick | reset | idle => rfl

theorem applyEvents_eq_next (es : List Event) (s : State) : applyEvents es s = .next (s.afterEvents es) := by
  induction es generalizing s with
  | nil => rfl
  | cons e es ih => rw [applyEvents_cons es (applyEvent_eq_next e s), ih, State.afterEvents_cons]

/-- What holds of a raised error, of the body of an operation that is not refused, and of the other events, holds of the
state after an event. -/
theorem State.afterEvent_of_cases {P : State → Prop} {s : State} {e : Event} (hraise : ∀ c, P (s.raise c))
    (hbody : ∀ i, s.refusedBusy i = false → P (bodyOf i s)) (hrx : P s.rxEvent) (htx : e = .tx → P s.txEvent)
    (htick : P s.tickEvent) (hreset : e = .reset → P s.resetEvent) (hidle : P s) : P (s.afterEvent e) := by
  cases e with
  | op w =>
    rw [State.afterEvent]
    cases decode w with
    | error x => exact hraise .illegalOp
    | ok i =>
      cases hcell : s.refusedBusy i with
      | true => simpa only [hcell, if_true] using hraise .busy
      | false => simpa only [hcell, Bool.false_eq_true, if_false] using hbody i hcell
  | rx => exact hrx
  | tx => exact htx rfl
  | tick => exact htick
  | reset => exact hreset rfl
  | idle => exact hidle

theorem State.afterEvent_config (s : State) (e : Event) : (s.afterEvent e).config = s.config := by
  obtain ⟨-, hrx, -⟩ := s.rxEvent_frame
  obtain ⟨-, htx, -⟩ := s.txEvent_frame
  obtain ⟨-, htick, -⟩ := s.tickEvent_frame
  exact State.afterEvent_of_cases (P := fun t => t.config = s.config) (fun _ => rfl) (fun i _ => bodyOf_config i s) hrx
    (fun _ => htx) htick (fun _ => rfl) rfl

/-! ### No event reads or writes the schedule (R13, log 1) -/

/-- The block with other events scheduled. -/
def State.withSched (es : List Event) (s : State) : State := { s with sched := es }

section
variable (s : State) (es : List Event)

theorem State.endCheck_withSched : (s.withSched es).endCheck = s.endCheck.withSched es := by
  unfold State.endCheck
  rw [apply_ite (State.withSched es), apply_ite (State.withSched es)]
  rfl

theorem State.resync_withSched : (s.withSched es).resync = s.resync.withSched es := by
  unfold State.resync
  rw [apply_ite (State.withSched es)]
  rfl

theorem State.rxByte_withSched (b : Byte) : (s.withSched es).rxByte b = (s.rxByte b).withSched es := by
  have happend : (s.withSched es).appendByte b = (s.appendByte b).withSched es := rfl
  rw [State.rxByte, State.rxByte, happend, State.resync_withSched, State.endCheck_withSched]

theorem State.rxEvent_withSched : (s.withSched es).rxEvent = s.rxEvent.withSched es := by
  unfold State.rxEvent
  rw [show (s.withSched es).rxLine = s.rxLine from rfl]
  cases s.rxLine with
  | nil => rfl
  | cons b rest =>
    rw [apply_ite (State.withSched es), ← State.rxByte_withSched]
    rfl

theorem State.txEvent_withSched : (s.withSched es).txEvent = s.txEvent.withSched es := by
  unfold State.txEvent
  rw [apply_ite (State.withSched es)]
  rfl

theorem State.tickEvent_withSched : (s.withSched es).tickEvent = s.tickEvent.withSched es := by
  unfold State.tickEvent
  rw [apply_ite (State.withSched es), ← State.endCheck_withSched]
  rfl

theorem State.encodeBody_withSched (cmd : BitVec 3) :
    (s.withSched es).encodeBody cmd = (s.encodeBody cmd).withSched es := by
  by_cases hcmd : cmd.toNat < 5
  · rw [s.encodeBody_of_lt hcmd]
    exact State.encodeBody_of_lt _ hcmd
  · rw [s.encodeBody_of_le (Nat.le_of_not_lt hcmd)]
    exact State.encodeBody_of_le _ (Nat.le_of_not_lt hcmd)

theorem State.collectBody_withSched (expid : Byte) (target : BitVec 4) (deadline : BitVec deadlineW) :
    (s.withSched es).collectBody expid target deadline = (s.collectBody expid target deadline).withSched es := by
  unfold State.collectBody
  rw [apply_ite (State.withSched es), ← State.endCheck_withSched]
  rfl

theorem State.decodeWith_withSched {check : State → ResFail} {result : State → State}
    (hcheck : ∀ u, check (u.withSched es) = check u)
    (hresult : ∀ u, result (u.withSched es) = (result u).withSched es) :
    (s.withSched es).decodeWith check result = (s.decodeWith check result).withSched es := by
  by_cases hpass : check s.clearResults = .none
  · rw [State.decodeWith_of_pass hpass, ← hresult]
    exact State.decodeWith_of_pass ((hcheck s.clearResults).trans hpass)
  · rw [State.decodeWith_of_fail hpass, ← hcheck]
    exact State.decodeWith_of_fail ((hcheck s.clearResults).trans_ne hpass)

theorem State.decodeFwBody_withSched : (s.withSched es).decodeFwBody = s.decodeFwBody.withSched es :=
  s.decodeWith_withSched es (fun _ => rfl) fun _ => rfl

theorem State.decodeModeBody_withSched : (s.withSched es).decodeModeBody = s.decodeModeBody.withSched es :=
  s.decodeWith_withSched es (fun _ => rfl) fun _ => rfl

theorem State.decodeDataBody_withSched : (s.withSched es).decodeDataBody = s.decodeDataBody.withSched es :=
  s.decodeWith_withSched es (fun _ => rfl) fun _ => rfl

theorem State.decodeAutoBody_withSched : (s.withSched es).decodeAutoBody = s.decodeAutoBody.withSched es := by
  cases hvalid : s.lastcmdValid with
  | false =>
    rw [State.decodeAutoBody_of_invalid hvalid]
    exact State.decodeAutoBody_of_invalid hvalid
  | true =>
    rw [State.decodeAutoBody_of_valid hvalid]
    refine (State.decodeAutoBody_of_valid (s := s.withSched es) hvalid).trans ?_
    change bodyOf (decoderOf s.config.catalog[s.lastcmd].cls) (s.withSched es) = _
    cases s.config.catalog[s.lastcmd].cls with
    | fw => exact s.decodeFwBody_withSched es
    | mode => exact s.decodeModeBody_withSched es
    | data => exact s.decodeDataBody_withSched es

theorem bodyOf_withSched (i : Instr) : bodyOf i (s.withSched es) = (bodyOf i s).withSched es := by
  cases i with
  | nop => rfl
  | rdreg r => cases r <;> rfl
  | encode cmd => exact s.encodeBody_withSched es cmd
  | collect expid target deadline => exact s.collectBody_withSched es expid target deadline
  | decodeAuto => exact s.decodeAutoBody_withSched es
  | decodeFw => exact s.decodeFwBody_withSched es
  | decodeMode => exact s.decodeModeBody_withSched es
  | decodeData => exact s.decodeDataBody_withSched es

theorem State.afterEvent_withSched (e : Event) : (s.withSched es).afterEvent e = (s.afterEvent e).withSched es := by
  cases e with
  | op w =>
    simp only [State.afterEvent]
    cases decode w with
    | error x => rfl
    | ok i =>
      have hcell : (s.withSched es).refusedBusy i = s.refusedBusy i := by cases i <;> rfl
      simp only [hcell, bodyOf_withSched]
      rw [apply_ite (State.withSched es)]
      rfl
  | rx => exact s.rxEvent_withSched es
  | tx => exact s.txEvent_withSched es
  | tick => exact s.tickEvent_withSched es
  | reset | idle => rfl

theorem State.afterEvents_withSched (fs : List Event) :
    (s.withSched es).afterEvents fs = (s.afterEvents fs).withSched es := by
  induction fs generalizing s with
  | nil => rfl
  | cons f fs ih => rw [State.afterEvents_cons, State.afterEvent_withSched, ih, State.afterEvents_cons]

theorem State.afterEvents_sched (fs : List Event) : (s.afterEvents fs).sched = s.sched := by
  have hsame : s.withSched s.sched = s := rfl
  rw [← hsame, State.afterEvents_withSched]
  rfl

end

/-! ### Steps and runs -/

section
variable {s : State}

theorem step_eq_next {e : Event} {rest : List Event} (hw : s.config.wf = true) (hs : s.sched = e :: rest) :
    step s = .next ((s.withSched rest).afterEvent e) :=
  (step_cons hw hs).trans (applyEvent_eq_next e _)

/-- A step that answers next did so in a well-formed configuration, and left the schedule empty or applied its first
event. -/
theorem step_eq_next_cases {t : State} (h : step s = .next t) :
    t = s ∨ ∃ e rest, s.sched = e :: rest ∧ t = (s.withSched rest).afterEvent e := by
  obtain ⟨hw, ⟨-, rfl⟩ | ⟨e, rest, hs, -⟩⟩ := step_cases h
  · exact .inl rfl
  · rw [step_eq_next hw hs] at h
    cases h
    exact .inr ⟨e, rest, hs, rfl⟩

/-- A run in a well-formed configuration applies the first scheduled events one by one (R13). -/
theorem run_eq_next (n : Nat) (hw : s.config.wf = true) :
    run n s = .next ((s.withSched (s.sched.drop n)).afterEvents (s.sched.take n)) := by
  induction n generalizing s with
  | zero => rfl
  | succ n ih =>
    cases hs : s.sched with
    | nil => rw [run_succ n (step_nil hw hs), ih hw, hs]; simp
    | cons e rest =>
      have hafter : (s.withSched rest).afterEvent e = (s.afterEvent e).withSched rest := s.afterEvent_withSched rest e
      have hw' : ((s.withSched rest).afterEvent e).config.wf = true := by rw [State.afterEvent_config]; exact hw
      rw [run_succ n (step_eq_next hw hs), ih hw', hafter, List.take_succ_cons, List.drop_succ_cons,
        State.afterEvents_cons, State.afterEvent_withSched]
      rfl

/-- A run of as many steps as the events at the head of the schedule. -/
theorem run_append_eq_next {es fs : List Event} (hw : s.config.wf = true) (hs : s.sched = es ++ fs) :
    run es.length s = .next ((s.withSched fs).afterEvents es) := by
  rw [run_eq_next _ hw, hs, List.take_left, List.drop_left]

end

/-! ### The statements -/

/-- Settles O7: the step is the event, and the word the host issues is the word the event holds. -/
theorem stepRunsTheDecodedOperation : Obligations.StepRunsTheDecodedOperation := by
  unfold Obligations.StepRunsTheDecodedOperation
  intro s w rest hw hs
  have hmod : w.toNat % 2 ^ 32 = w.toNat := Nat.mod_eq_of_lt w.isLt
  have hword : tableWord 32 w.toNat = w := by rw [tableWord, hmod, BitVec.ofNat_toNat, BitVec.setWidth_eq]
  refine ⟨fun i hi => ?legal, fun e he => ?illegal, ?issued, ?table⟩
  case legal => rw [step_cons hw hs, applyEvent, opEvent_of_decode_ok _ hi]
  case illegal => rw [step_cons hw hs, applyEvent, opEvent_of_decode_error _ he, State.raise]
  case issued =>
    have hissued : (s.withFetchWord 32 w.toNat).sched = .op w :: s.sched := by rw [State.withFetchWord, hword]
    exact step_cons (s := s.withFetchWord 32 w.toNat) hw hissued
  case table => rw [decodeTableWord, hmod, if_pos w.isLt, BitVec.ofNat_toNat, BitVec.setWidth_eq]

/-- Settles O8: the step is the event, applied to the state with the event taken off the schedule. -/
theorem stepAppliesTheScheduledEvent : Obligations.StepAppliesTheScheduledEvent := by
  unfold Obligations.StepAppliesTheScheduledEvent
  exact fun s hw => ⟨fun rest => step_cons hw, fun rest => step_cons hw, fun rest => step_cons hw,
    fun rest => step_cons hw, fun rest => step_cons hw, step_nil hw⟩

/-- Settles O48: with a well-formed configuration the step is its event, which goes on. -/
theorem stepStopsOnlyOnAnIllFormedConfiguration : Obligations.StepStopsOnlyOnAnIllFormedConfiguration := by
  unfold Obligations.StepStopsOnlyOnAnIllFormedConfiguration
  intro s
  refine ⟨fun hw => ?refused, fun hw => ?next⟩
  case refused => rw [step, hw, if_neg Bool.false_ne_true]
  case next =>
    cases hs : s.sched with
    | nil => exact ⟨s, step_nil hw hs⟩
    | cons e rest => exact ⟨_, step_eq_next hw hs⟩

/-- Settles O49, as no event writes the configuration. -/
theorem noStepWritesTheConfiguration : Obligations.NoStepWritesTheConfiguration := by
  unfold Obligations.NoStepWritesTheConfiguration
  intro s t h
  rcases step_eq_next_cases h with rfl | ⟨e, rest, -, rfl⟩
  · rfl
  · exact State.afterEvent_config _ e

/-- Settles O54, event by event. -/
theorem lineAndTickFrame : Obligations.LineAndTickFrame := by
  unfold Obligations.LineAndTickFrame
  intro s t
  refine ⟨fun h => ?rx, fun h => ?tx, fun h => ?tick⟩ <;> cases h
  case rx => exact ⟨s.sameTransmitter_rxEvent, s.sameResults_rxEvent, s.rxEvent_err, s.rxEvent_frame⟩
  case tx => exact ⟨s.sameReader_txEvent, s.sameResults_txEvent, s.txEvent_err, s.txEvent_frame⟩
  case tick =>
    exact ⟨s.sameTransmitter_tickEvent, s.sameResults_tickEvent, s.sameSurroundings_tickEvent, s.tickEvent_err,
      s.tickEvent_frame⟩

/-- Settles O27, as RX takes no byte then. -/
theorem untakenBytesStayWithTheTransport : Obligations.UntakenBytesStayWithTheTransport := by
  unfold Obligations.UntakenBytesStayWithTheTransport
  exact fun s h => congrArg _ (s.rxEvent_of_untaken h)

/-- Settles O22; that no frame is being sent while a collection runs is one of the invariants. -/
theorem txSendsTheNextByte : Obligations.TxSendsTheNextByte := by
  unfold Obligations.TxSendsTheNextByte
  exact ⟨fun s h => ⟨congrArg _ (s.txEvent_of_sending h), txptr_succ h⟩,
    fun s h => congrArg _ (s.txEvent_of_sent h),
    fun s hinv hbusy => s.txBusy_false_iff.1 (hinv.busy_not_sending hbusy)⟩

/-- Settles O46: after RESET no collection runs and nothing is left to send, and a COLLECT is accepted. -/
theorem resetAbandonsActivityAndKeepsTheLines : Obligations.ResetAbandonsActivityAndKeepsTheLines := by
  unfold Obligations.ResetAbandonsActivityAndKeepsTheLines
  intro s t h
  cases h
  refine ⟨rfl, rfl, rfl, rfl, congrArg _ (s.resetEvent.rxEvent_of_untaken (.inl rfl)), applyEvent_tick_of_idle rfl, _,
    exec_collect_of_idle _ rfl (Nat.le_refl 19), ?_⟩
  rw [State.collectBody_of_le _ (by decide), State.endCheck_startReader]
  exact ⟨rfl, rfl⟩

/-- Settles O47: a cycle and the run of its events leave the same state. -/
theorem clockCycleAppliesEventsInOrder : Obligations.ClockCycleAppliesEventsInOrder := by
  unfold Obligations.ClockCycleAppliesEventsInOrder
  refine ⟨fun s i hw hrst => ?reset, fun s i hw => ?refused, fun s i hrst => ?order, fun s i hw => ?run⟩
  case reset => rw [clockCycle_of_wf i hw, State.cycleEvents, if_pos hrst]; rfl
  case refused => rw [clockCycle, hw, if_neg Bool.false_ne_true]
  case order =>
    simp [State.cycleEvents, hrst, State.rxReady, State.txValid, State.txBusy]
  case run =>
    exact ⟨s.afterEvents (s.cycleEvents i), by rw [clockCycle_of_wf i hw, applyEvents_eq_next],
      run_append_eq_next (s := s.withCycle i) hw rfl⟩

end Sys2Proof.Machine
end

section
/-! The invariants of R35 and the coherence of the result registers (R32). Three events end in an end_check: an
accepted COLLECT, an RX and a TICK. Each leaves a collection that has passed neither its target nor its deadline, and
from such a state the end check gives the invariants; every other event keeps the reader, or is RESET. Then what the
invariants say of a byte behind two others (R167) and of a completed collection (R151). -/

namespace Sys2Proof.Machine

/-! ### Right before an end_check (R162) -/

/-- What the invariants ask for right before an end_check: a collection is running, and it may be full or at its
deadline but is past neither. -/
structure State.BeforeEndCheck (s : State) : Prop where
  busy : s.rxBusy = true
  no_cause : s.doneCause = .none
  rxlen_le_target : s.rxlen.toNat ≤ s.target.toNat
  target_le_cap : s.target.toNat ≤ bufCap
  elapsed_le_deadline : s.elapsed.toNat ≤ s.deadline.toNat
  unused_zero : ∀ i : Fin bufCap, s.rxlen.toNat ≤ i.val → s.rxbuf[i] = padByte
  synced : 2 ≤ s.rxlen.toNat → s.rxbuf[0] = headSentinel ∧ s.rxbuf[1] = s.expid
  txptr_le_len : s.txptr.toNat ≤ cmdFrameLen
  not_sending : s.txBusy = false

/-- What the end check then leaves: still running and short of both ends, or full at the target, or short at the
deadline. -/
theorem State.BeforeEndCheck.endCheck_cases {s : State} (h : s.BeforeEndCheck) :
    (s.endCheck.rxBusy = true ∧ s.endCheck.doneCause = .none ∧ s.rxlen.toNat < s.target.toNat ∧
        s.elapsed.toNat < s.deadline.toNat) ∨
      (s.endCheck.rxBusy = false ∧ s.endCheck.doneCause = .full ∧ s.rxlen = s.target) ∨
      (s.endCheck.rxBusy = false ∧ s.endCheck.doneCause = .deadline ∧ s.rxlen.toNat < s.target.toNat ∧
        s.elapsed = s.deadline) := by
  rcases s.endCheck_cases with ⟨-, hfull, hend⟩ | ⟨-, hshort, hexpired, hend⟩ | ⟨hrunning, hend⟩
  · rw [hend]
    exact .inr (.inl ⟨rfl, rfl, BitVec.eq_of_toNat_eq (h.rxlen_le_target.antisymm hfull)⟩)
  · rw [hend]
    exact .inr (.inr ⟨rfl, rfl, hshort, BitVec.eq_of_toNat_eq (h.elapsed_le_deadline.antisymm hexpired)⟩)
  · rw [hend]
    exact .inl ⟨h.busy, h.no_cause, hrunning h.busy⟩

/-- A collection the end check leaves running is short of both ends, and has no cause. -/
theorem State.BeforeEndCheck.running {s : State} (h : s.BeforeEndCheck) (hbusy : s.endCheck.rxBusy = true) :
    s.endCheck.doneCause = .none ∧ s.rxlen.toNat < s.target.toNat ∧ s.elapsed.toNat < s.deadline.toNat := by
  rcases h.endCheck_cases with ⟨-, hrunning⟩ | ⟨hended, -⟩ | ⟨hended, -⟩
  · exact hrunning
  · rw [hended] at hbusy; cases hbusy
  · rw [hended] at hbusy; cases hbusy

theorem State.BeforeEndCheck.full {s : State} (h : s.BeforeEndCheck) (hfull : s.endCheck.doneCause = .full) :
    s.rxlen = s.target := by
  rcases h.endCheck_cases with ⟨-, hcause, -⟩ | ⟨-, -, hlen⟩ | ⟨-, hcause, -⟩
  · rw [hcause] at hfull; cases hfull
  · exact hlen
  · rw [hcause] at hfull; cases hfull

theorem State.BeforeEndCheck.expired {s : State} (h : s.BeforeEndCheck)
    (hdeadline : s.endCheck.doneCause = .deadline) : s.rxlen.toNat < s.target.toNat ∧ s.elapsed = s.deadline := by
  rcases h.endCheck_cases with ⟨-, hcause, -⟩ | ⟨-, hcause, -⟩ | ⟨-, -, hexpired⟩
  · rw [hcause] at hdeadline; cases hdeadline
  · rw [hcause] at hdeadline; cases hdeadline
  · exact hexpired

theorem State.BeforeEndCheck.inv_endCheck {s : State} (h : s.BeforeEndCheck) : s.endCheck.Inv where
  busy_rxlen_le_target _ := by simpa using h.rxlen_le_target
  target_le_cap := by simpa using h.target_le_cap
  rxlen_le_cap := by simpa using h.rxlen_le_target.trans h.target_le_cap
  unused_zero := by simpa using h.unused_zero
  busy_not_full hbusy := by
    obtain ⟨-, hshort, -⟩ := h.running hbusy
    simpa using hshort
  busy_not_expired hbusy := by
    obtain ⟨-, -, htime⟩ := h.running hbusy
    simpa using htime
  synced := by simpa using h.synced
  full_means_target _ hfull := by simpa using h.full hfull
  elapsed_le_deadline := by simpa using h.elapsed_le_deadline
  txptr_le_len := by simpa using h.txptr_le_len
  busy_not_sending _ := by simpa [State.txBusy] using h.not_sending
  busy_no_cause hbusy := by
    obtain ⟨hcause, -⟩ := h.running hbusy
    exact hcause
  deadline_means_short hdeadline := by simpa using h.expired hdeadline

section
variable {s t : State}

theorem State.beforeEndCheck_startReader {expid : Byte} {target : BitVec 4} {deadline : BitVec deadlineW}
    (htarget : target.toNat ≤ 10) (hptr : s.txptr.toNat ≤ cmdFrameLen) (hsend : s.txBusy = false) :
    (s.startReader expid target deadline).BeforeEndCheck where
  busy := rfl
  no_cause := rfl
  rxlen_le_target := Nat.zero_le _
  target_le_cap := htarget
  elapsed_le_deadline := Nat.zero_le _
  unused_zero i _ := Vector.getElem_replicate i.isLt
  synced htwo := absurd htwo (by decide : ¬ 2 ≤ 0)
  txptr_le_len := hptr
  not_sending := hsend

/-- A byte appended to a running collection fits it, and the resynchronisation leaves the two leading bytes checked
(R165, R166). -/
theorem State.Inv.beforeEndCheck_append (h : s.Inv) (hbusy : s.rxBusy = true) (b : Byte) :
    (s.appendByte b).resync.BeforeEndCheck := by
  have hshort : s.rxlen.toNat < s.target.toNat := h.busy_not_full hbusy
  have hcap : s.target.toNat ≤ 10 := h.target_le_cap
  have hnext : (s.rxlen + 1).toNat = s.rxlen.toNat + 1 := rxlen_succ (by omega)
  rcases (s.appendByte b).resync_cases with ⟨-, -, hr⟩ | ⟨hsynced, hr⟩
  · rw [hr]
    exact
      { busy := hbusy
        no_cause := h.busy_no_cause hbusy
        rxlen_le_target := Nat.zero_le _
        target_le_cap := hcap
        elapsed_le_deadline := h.elapsed_le_deadline
        unused_zero := fun i _ => Vector.getElem_replicate i.isLt
        synced := fun htwo => absurd htwo (by decide : ¬ 2 ≤ 0)
        txptr_le_len := h.txptr_le_len
        not_sending := h.busy_not_sending hbusy }
  · rw [hr]
    exact
      { busy := hbusy
        no_cause := h.busy_no_cause hbusy
        rxlen_le_target := hnext.trans_le hshort
        target_le_cap := hcap
        elapsed_le_deadline := h.elapsed_le_deadline
        unused_zero := fun i hi => by
          rw [State.appendByte_rxlen, hnext] at hi
          have hne : s.rxlen.toNat ≠ i.val := by omega
          simpa [hne] using h.unused_zero i (by omega)
        synced := hsynced
        txptr_le_len := h.txptr_le_len
        not_sending := h.busy_not_sending hbusy }

theorem State.Inv.beforeEndCheck_tick (h : s.Inv) (hbusy : s.rxBusy = true) :
    State.BeforeEndCheck { s with elapsed := s.elapsed + 1 } where
  busy := hbusy
  no_cause := h.busy_no_cause hbusy
  rxlen_le_target := h.busy_rxlen_le_target hbusy
  target_le_cap := h.target_le_cap
  elapsed_le_deadline := (elapsed_succ (h.busy_not_expired hbusy)).trans_le (h.busy_not_expired hbusy)
  unused_zero := h.unused_zero
  synced := h.synced
  txptr_le_len := h.txptr_le_len
  not_sending := h.busy_not_sending hbusy

/-! ### Every event keeps the invariants (R35) -/

/-- The invariants speak of the reader, and of TXPTR: in range, and past the frame while a collection runs. -/
theorem State.Inv.of_sameReader (h : s.Inv) (hreader : s.SameReader t) (hptr : t.txptr.toNat ≤ cmdFrameLen)
    (hsend : s.rxBusy = true → t.txBusy = false) : t.Inv := by
  cases t
  obtain ⟨rfl, rfl, rfl, rfl, rfl, rfl, rfl, rfl, rfl⟩ := hreader
  exact { h with txptr_le_len := hptr, busy_not_sending := hsend }

theorem State.Inv.raise (h : s.Inv) (e : ErrCode) : (s.raise e).Inv :=
  h.of_sameReader (s.sameReader_raise e) h.txptr_le_len h.busy_not_sending

theorem State.Inv.withSched (h : s.Inv) (es : List Event) : (s.withSched es).Inv :=
  h.of_sameReader ⟨rfl, rfl, rfl, rfl, rfl, rfl, rfl, rfl, rfl⟩ h.txptr_le_len h.busy_not_sending

theorem State.Inv.withRxLine (h : s.Inv) (line : List Byte) : State.Inv { s with rxLine := line } :=
  h.of_sameReader ⟨rfl, rfl, rfl, rfl, rfl, rfl, rfl, rfl, rfl⟩ h.txptr_le_len h.busy_not_sending

theorem State.inv_resetEvent : s.resetEvent.Inv where
  busy_rxlen_le_target := nofun
  target_le_cap := Nat.zero_le _
  rxlen_le_cap := Nat.zero_le _
  unused_zero i _ := Vector.getElem_replicate i.isLt
  busy_not_full := nofun
  busy_not_expired := nofun
  synced htwo := absurd htwo (by decide : ¬ 2 ≤ 0)
  full_means_target _ := nofun
  elapsed_le_deadline := Nat.zero_le _
  txptr_le_len := Nat.le_refl 19
  busy_not_sending := nofun
  busy_no_cause := nofun
  deadline_means_short := nofun

theorem State.Inv.encodeBody (h : s.Inv) (hidle : s.rxBusy = false) (cmd : BitVec 3) : (s.encodeBody cmd).Inv := by
  rcases s.encodeBody_cases cmd with ⟨_, hbody⟩ | ⟨-, hbody⟩
  · rw [hbody]
    exact h.of_sameReader ⟨rfl, rfl, rfl, rfl, rfl, rfl, rfl, rfl, rfl⟩ (Nat.zero_le _) (by simp [hidle])
  · rw [hbody]
    exact h.raise _

theorem State.Inv.collectBody (h : s.Inv) (hsend : s.txBusy = false) (expid : Byte) (target : BitVec 4)
    (deadline : BitVec deadlineW) : (s.collectBody expid target deadline).Inv := by
  rcases s.collectBody_cases expid target deadline with ⟨htarget, hbody⟩ | ⟨-, hbody⟩
  · rw [hbody]
    exact (State.beforeEndCheck_startReader htarget h.txptr_le_len hsend).inv_endCheck
  · rw [hbody]
    exact h.raise _

theorem State.Inv.of_clearResults (h : s.Inv) (hclear : t.clearResults = s.clearResults) : t.Inv := by
  have hptr : s.txptr = t.txptr := State.eq_of_clearResults hclear State.txptr
  have hbusy : s.txBusy = t.txBusy := State.eq_of_clearResults hclear State.txBusy
  exact h.of_sameReader (State.sameReader_of_clearResults hclear) (hptr ▸ h.txptr_le_len)
    (hbusy ▸ h.busy_not_sending)

theorem State.Inv.bodyOf (h : s.Inv) {i : Instr} (hfree : s.refusedBusy i = false) : (bodyOf i s).Inv := by
  cases i with
  | nop => exact h
  | rdreg r => exact h.of_sameReader ⟨rfl, rfl, rfl, rfl, rfl, rfl, rfl, rfl, rfl⟩ h.txptr_le_len h.busy_not_sending
  | encode cmd =>
    obtain ⟨hidle, -⟩ := Bool.or_eq_false_iff.1 hfree
    exact h.encodeBody hidle cmd
  | collect expid target deadline =>
    obtain ⟨-, hsend⟩ := Bool.or_eq_false_iff.1 hfree
    exact h.collectBody hsend expid target deadline
  | decodeAuto | decodeFw | decodeMode | decodeData => exact h.of_clearResults (bodyOf_clearResults (by simp))

theorem State.Inv.rxEvent (h : s.Inv) : s.rxEvent.Inv := by
  rcases s.rxEvent_cases with ⟨-, hsame⟩ | ⟨b, rest, hbusy, -, htaken⟩
  · rw [hsame]
    exact h
  · rw [htaken]
    exact ((h.withRxLine rest).beforeEndCheck_append hbusy b).inv_endCheck

theorem State.Inv.txEvent (h : s.Inv) : s.txEvent.Inv := by
  rcases s.txEvent_cases with ⟨-, hsame⟩ | ⟨hsending, hsent⟩
  · rw [hsame]
    exact h
  · rw [hsent]
    refine h.of_sameReader ⟨rfl, rfl, rfl, rfl, rfl, rfl, rfl, rfl, rfl⟩ ((txptr_succ hsending).trans_le hsending)
      fun hbusy => ?_
    have hnot : s.txBusy = false := h.busy_not_sending hbusy
    rw [s.txBusy_iff.2 hsending] at hnot
    cases hnot

theorem State.Inv.tickEvent (h : s.Inv) : s.tickEvent.Inv := by
  rcases s.tickEvent_cases with ⟨-, hsame⟩ | ⟨hbusy, hcounted⟩
  · rw [hsame]
    exact h
  · rw [hcounted]
    exact (h.beforeEndCheck_tick hbusy).inv_endCheck

theorem State.Inv.afterEvent (h : s.Inv) (e : Event) : (s.afterEvent e).Inv :=
  State.afterEvent_of_cases h.raise (fun _ => h.bodyOf) h.rxEvent (fun _ => h.txEvent) h.tickEvent
    (fun _ => State.inv_resetEvent) h

theorem State.Inv.afterEvents (h : s.Inv) (es : List Event) : (s.afterEvents es).Inv := by
  induction es generalizing s with
  | nil => exact h
  | cons e es ih => exact ih (h.afterEvent e)

/-! ### Every event keeps the result registers one decode's output (R32, R190, R191) -/

theorem State.ResultsCoherent.of_sameResults (h : s.ResultsCoherent) (hresults : s.SameResults t) :
    t.ResultsCoherent := by
  cases t
  obtain ⟨rfl, rfl, rfl, rfl, rfl, rfl, rfl, rfl⟩ := hresults
  exact { h with }

/-- A decoder leaves a reason and nothing else, or its own result over cleared registers. -/
theorem State.resultsCoherent_decodeWith {check : State → ResFail} {result : State → State}
    (hresult : ∀ u : State, (result u.clearResults).ResultsCoherent) :
    (s.decodeWith check result).ResultsCoherent := by
  rcases s.decodeWith_cases check result with ⟨-, h⟩ | ⟨-, h⟩
  · rw [h]
    exact hresult s
  · rw [h]
    exact ⟨.inl rfl, fun _ => rfl, fun _ => ⟨rfl, rfl, rfl⟩, fun _ => ⟨rfl, rfl⟩⟩

theorem State.resultsCoherent_decodeFwBody : s.decodeFwBody.ResultsCoherent :=
  State.resultsCoherent_decodeWith fun _ =>
    ⟨.inr rfl, fun _ => rfl, fun hkind => absurd rfl hkind, fun _ => ⟨rfl, rfl⟩⟩

theorem State.resultsCoherent_decodeModeBody : s.decodeModeBody.ResultsCoherent :=
  State.resultsCoherent_decodeWith fun _ =>
    ⟨.inr rfl, fun hkind => absurd rfl hkind, fun _ => ⟨rfl, rfl, rfl⟩, fun _ => ⟨rfl, rfl⟩⟩

theorem State.resultsCoherent_decodeDataBody : s.decodeDataBody.ResultsCoherent :=
  State.resultsCoherent_decodeWith fun _ =>
    ⟨.inr rfl, fun _ => rfl, fun _ => ⟨rfl, rfl, rfl⟩, fun hkind => absurd rfl hkind⟩

theorem State.ResultsCoherent.bodyOf (h : s.ResultsCoherent) (i : Instr) : (bodyOf i s).ResultsCoherent := by
  cases i with
  | nop => exact h
  | rdreg r => exact h.of_sameResults ⟨rfl, rfl, rfl, rfl, rfl, rfl, rfl, rfl⟩
  | encode cmd =>
    obtain ⟨-, hresults, -⟩ := s.encodeBody_frame cmd
    exact h.of_sameResults hresults
  | collect expid target deadline =>
    obtain ⟨-, hresults, -⟩ := s.collectBody_frame expid target deadline
    exact h.of_sameResults hresults
  | decodeFw => exact State.resultsCoherent_decodeFwBody
  | decodeMode => exact State.resultsCoherent_decodeModeBody
  | decodeData => exact State.resultsCoherent_decodeDataBody
  | decodeAuto =>
    rw [Machine.bodyOf]
    rcases s.decodeAutoBody_cases with ⟨-, hbody⟩ | ⟨-, hbody | hbody | hbody⟩ <;> rw [hbody]
    · exact h.of_sameResults (s.sameResults_raise _)
    · exact State.resultsCoherent_decodeFwBody
    · exact State.resultsCoherent_decodeModeBody
    · exact State.resultsCoherent_decodeDataBody

theorem State.resultsCoherent_resetEvent : s.resetEvent.ResultsCoherent :=
  ⟨.inl rfl, fun _ => rfl, fun _ => ⟨rfl, rfl, rfl⟩, fun _ => ⟨rfl, rfl⟩⟩

theorem State.ResultsCoherent.afterEvent (h : s.ResultsCoherent) (e : Event) : (s.afterEvent e).ResultsCoherent :=
  State.afterEvent_of_cases (fun c => h.of_sameResults (s.sameResults_raise c)) (fun i _ => h.bodyOf i)
    (h.of_sameResults s.sameResults_rxEvent) (fun _ => h.of_sameResults s.sameResults_txEvent)
    (h.of_sameResults s.sameResults_tickEvent) (fun _ => State.resultsCoherent_resetEvent) h

end

/-! ### The statements -/

/-- Settles O55: the state right after reset is one that RESET leaves. -/
theorem resetMeetsTheInvariants : Obligations.ResetMeetsTheInvariants := by
  unfold Obligations.ResetMeetsTheInvariants
  exact ⟨State.reset.inv_resetEvent, State.reset.resultsCoherent_resetEvent⟩

/-- Settles O56, as every event keeps the invariants. -/
theorem stepKeepsTheInvariants : Obligations.StepKeepsTheInvariants := by
  unfold Obligations.StepKeepsTheInvariants
  intro s t hinv h
  rcases step_eq_next_cases h with rfl | ⟨e, rest, -, rfl⟩
  · exact hinv
  · exact (hinv.withSched rest).afterEvent e

/-- Settles O57, as every event keeps the result registers coherent. -/
theorem stepKeepsResultsCoherent : Obligations.StepKeepsResultsCoherent := by
  unfold Obligations.StepKeepsResultsCoherent
  intro s t hcoherent h
  rcases step_eq_next_cases h with rfl | ⟨e, rest, -, rfl⟩
  · exact hcoherent
  · have hsched : (s.withSched rest).ResultsCoherent :=
      hcoherent.of_sameResults ⟨rfl, rfl, rfl, rfl, rfl, rfl, rfl, rfl⟩
    exact hsched.afterEvent e

/-- Settles O28: the byte passes, as the bytes held have passed, and is written behind the two leading bytes. -/
theorem syncCheckFailsOnlyAtTheSecondByte : Obligations.SyncCheckFailsOnlyAtTheSecondByte := by
  unfold Obligations.SyncCheckFailsOnlyAtTheSecondByte
  intro s t hinv hbusy hheld hline h
  obtain ⟨b, rest, hline⟩ := List.exists_cons_of_ne_nil hline
  have hcap : s.rxlen.toNat < 10 := (hinv.busy_not_full hbusy).trans_le hinv.target_le_cap
  have h0 : s.rxlen.toNat ≠ 0 := by omega
  have h1 : s.rxlen.toNat ≠ 1 := by omega
  rw [applyEvent_rx_of_collecting hbusy hline,
    State.rxByte_of_pass (s := { s with rxLine := rest }) hcap hinv.synced fun hone => absurd hone h1] at h
  cases h
  refine ⟨State.endCheck_resyncCnt _, ?_, ?_, ?_⟩
  · rw [State.endCheck_rxlen]
    exact rxlen_succ (hcap.trans (by decide))
  · simp [h0]
  · simp [h1]

/-- Settles O34: each predicate reads what an invariant says of the bytes held or of the way the collection ended. -/
theorem completedCollectionGuarantees : Obligations.CompletedCollectionGuarantees := by
  unfold Obligations.CompletedCollectionGuarantees
  intro s hinv
  have hsynced : 2 ≤ s.rxlen.toNat → s.headOk = true ∧ s.idOk = true := fun hheld => by
    obtain ⟨h0, h1⟩ := hinv.synced hheld
    have hone : 1 ≤ s.rxlen.toNat := by omega
    simp [State.headOk, State.idOk, hheld, hone, h0, h1]
  refine ⟨hsynced, fun hidle hfull htarget => ?full, fun hcause => ?short⟩
  case full =>
    have hten : s.rxlen.toNat = 10 := (congrArg BitVec.toNat (hinv.full_means_target hidle hfull)).trans htarget
    obtain ⟨hhead, hid⟩ := hsynced (by omega)
    have hlen : s.lenOk = true := decide_eq_true hten
    exact ⟨hlen, hhead, hid, by rw [State.frameValid, hlen, hhead, hid]; rfl⟩
  case short =>
    obtain ⟨hshort, -⟩ := hinv.deadline_means_short hcause
    refine ⟨hshort, fun htarget => decide_eq_false fun hten => ?_⟩
    have hten : s.rxlen.toNat = 10 := hten
    omega

end Sys2Proof.Machine
end

section
/-! Runs (R60, R128, R170, R175). A run is the events of its schedule, so a claim about it is an induction over a list of
events. A frame being sent keeps the transmitter from everything but TX and RESET, so each TX hands on the byte TXPTR
points at; a running collection counts its ticks and nothing else moves its clock, so what is left before the deadline
bounds the ticks from both sides. -/

namespace Sys2Proof.Machine

section
variable {s t : State}

/-! ### What the transmit line gets (R60, R127, R128) -/

/-- Only TX hands a byte to the line. -/
theorem State.afterEvent_txLine {e : Event} (he : e ≠ .tx) : (s.afterEvent e).txLine = s.txLine := by
  obtain ⟨-, -, hrx, -⟩ := s.rxEvent_frame
  exact State.afterEvent_of_cases (P := fun t => t.txLine = s.txLine) (fun _ => rfl)
    (fun i _ => (sameSurroundings_bodyOf i s).txLine.symm) hrx (fun htx => absurd htx he)
    s.sameSurroundings_tickEvent.txLine.symm (fun _ => rfl) rfl

/-- While a frame is being sent, an operation raises BUSY or is one that does not reach the transmitter (R103). -/
theorem sameTransmitter_bodyOf_of_sending {i : Instr} (hsending : s.txptr.toNat < 19)
    (hfree : s.refusedBusy i = false) : s.SameTransmitter (bodyOf i s) := by
  cases i with
  | nop => exact .refl s
  | rdreg r => exact ⟨rfl, rfl, rfl, rfl⟩
  | encode | collect => simp [State.refusedBusy, s.txBusy_iff.2 hsending] at hfree
  | decodeAuto | decodeFw | decodeMode | decodeData =>
    exact State.sameTransmitter_of_clearResults (bodyOf_clearResults (by simp))

/-- While a frame is being sent, only TX and RESET reach the transmitter (R128). -/
theorem State.sameTransmitter_afterEvent {e : Event} (hsending : s.txptr.toNat < 19) (htx : e ≠ .tx)
    (hreset : e ≠ .reset) : s.SameTransmitter (s.afterEvent e) :=
  State.afterEvent_of_cases s.sameTransmitter_raise (fun _ => sameTransmitter_bodyOf_of_sending hsending)
    s.sameTransmitter_rxEvent (fun he => absurd he htx) s.sameTransmitter_tickEvent (fun he => absurd he hreset)
    (.refl s)

/-- The bytes of the frame the line has still to get (R28, R60). -/
def State.unsent (s : State) : List Byte := s.txbuf.toList.drop s.txptr.toNat

theorem State.unsent_of_sending (h : s.txptr.toNat < 19) :
    s.unsent = s.txbuf[s.txptr.toNat] :: s.txEvent.unsent := by
  rw [s.txEvent_of_sending h, State.unsent, State.unsent, txptr_succ h]
  exact List.drop_eq_getElem_cons (by simpa using h)

/-- As many of the unsent bytes reach the line, in order, as there are TX events, when there are no more TX than
bytes. -/
theorem State.afterEvents_txLine {es : List Event} (hreset : Event.reset ∉ es)
    (hcount : es.count .tx ≤ 19 - s.txptr.toNat) :
    (s.afterEvents es).txLine = s.txLine ++ s.unsent.take (es.count .tx) := by
  induction es generalizing s with
  | nil => simp
  | cons e es ih =>
    obtain ⟨hne, hrest⟩ := not_or.1 (List.mem_cons.not.1 hreset)
    rw [State.afterEvents_cons]
    by_cases htx : e = .tx
    · subst htx
      rw [List.count_cons_self] at hcount ⊢
      have hsending : s.txptr.toNat < 19 := by omega
      have hptr : (s.afterEvent .tx).txptr.toNat = s.txptr.toNat + 1 := by
        rw [State.afterEvent, s.txEvent_of_sending hsending]
        exact txptr_succ hsending
      have hline : (s.afterEvent .tx).txLine = s.txLine ++ [s.txbuf[s.txptr.toNat]] := by
        rw [State.afterEvent, s.txEvent_of_sending hsending]
      rw [ih hrest (by omega), hline, State.unsent_of_sending hsending, List.take_succ_cons, List.append_assoc]
      rfl
    · rw [List.count_cons_of_ne htx] at hcount ⊢
      have hline : (s.afterEvent e).txLine = s.txLine := State.afterEvent_txLine htx
      by_cases hzero : es.count .tx = 0
      · rw [ih hrest (by omega), hline, hzero, List.take_zero, List.take_zero]
      · have hsame : s.SameTransmitter (s.afterEvent e) :=
          State.sameTransmitter_afterEvent (by omega) htx (Ne.symm hne)
        have hunsent : (s.afterEvent e).unsent = s.unsent := by
          rw [State.unsent, State.unsent, hsame.txbuf, hsame.txptr]
        rw [ih hrest (by rw [← hsame.txptr]; exact hcount), hline, hunsent]

/-! ### The clock of a collection (R168, R170, R175) -/

theorem State.SameReader.trans {u : State} (h : s.SameReader t) (h' : t.SameReader u) : s.SameReader u :=
  ⟨h.rxbuf.trans h'.rxbuf, h.rxlen.trans h'.rxlen, h.target.trans h'.target, h.expid.trans h'.expid,
    h.deadline.trans h'.deadline, h.elapsed.trans h'.elapsed, h.rxBusy.trans h'.rxBusy,
    h.doneCause.trans h'.doneCause, h.resyncCnt.trans h'.resyncCnt⟩

/-- From a collecting state, an event other than RESET keeps DEADLINE, and a TICK and nothing else moves ELAPSED. -/
theorem State.afterEvent_clock (hinv : s.Inv) (hbusy : s.rxBusy = true) {e : Event} (hreset : e ≠ .reset) :
    (s.afterEvent e).deadline = s.deadline ∧
      (s.afterEvent e).elapsed.toNat = s.elapsed.toNat + [e].count .tick := by
  cases e with
  | op w =>
    have hsame : s.SameReader (s.afterEvent (.op w)) :=
      opEvent_sameReader_of_collecting hbusy (applyEvent_eq_next (.op w) s)
    exact ⟨hsame.deadline.symm, congrArg BitVec.toNat hsame.elapsed.symm⟩
  | rx =>
    obtain ⟨-, -, -, -, -, -, hdeadline, helapsed⟩ := s.rxEvent_frame
    exact ⟨hdeadline, congrArg BitVec.toNat helapsed⟩
  | tx =>
    have hsame : s.SameReader s.txEvent := s.sameReader_txEvent
    exact ⟨hsame.deadline.symm, congrArg BitVec.toNat hsame.elapsed.symm⟩
  | tick =>
    rw [State.afterEvent, State.tickEvent_of_collecting hbusy, State.endCheck_deadline, State.endCheck_elapsed]
    exact ⟨rfl, elapsed_succ (hinv.busy_not_expired hbusy)⟩
  | reset => exact absurd rfl hreset
  | idle => exact ⟨rfl, rfl⟩

/-! ### A collection has ended by its last tick (R175) -/

/-- Whatever the events are, some first part of them ends the collection when they hold all the ticks that were left. -/
theorem State.exists_ended {es : List Event} (hinv : s.Inv) (hbusy : s.rxBusy = true)
    (hticks : s.deadline.toNat - s.elapsed.toNat ≤ es.count .tick) :
    ∃ k, k ≤ es.length ∧ (s.afterEvents (es.take k)).rxBusy = false := by
  induction es generalizing s with
  | nil =>
    have htime : s.elapsed.toNat < s.deadline.toNat := hinv.busy_not_expired hbusy
    rw [List.count_nil] at hticks
    omega
  | cons e es ih =>
    cases hnext : (s.afterEvent e).rxBusy with
    | false => exact ⟨1, by simp, hnext⟩
    | true =>
      have hreset : e ≠ .reset := fun h => by subst h; cases hnext
      obtain ⟨hdeadline, helapsed⟩ := State.afterEvent_clock hinv hbusy hreset
      have hsplit : (e :: es).count .tick = [e].count .tick + es.count .tick := List.count_append (l₁ := [e])
      obtain ⟨k, hk, hended⟩ := ih (hinv.afterEvent e) hnext (by rw [hdeadline]; omega)
      exact ⟨k + 1, Nat.succ_le_succ hk, hended⟩

/-! ### A collection that ends short has seen its ticks (R170) -/

/-- The events that are neither an operation nor RESET. -/
abbrev Event.IsLineOrTick (e : Event) : Prop := e = .rx ∨ e = .tx ∨ e = .tick ∨ e = .idle

/-- With no collection running, the line and tick events leave the reader (R31, R168). -/
theorem State.sameReader_afterEvents_of_idle {es : List Event} (hidle : s.rxBusy = false)
    (hes : ∀ e ∈ es, e.IsLineOrTick) : s.SameReader (s.afterEvents es) := by
  induction es generalizing s with
  | nil => exact .refl s
  | cons e es ih =>
    obtain ⟨he, hes⟩ := List.forall_mem_cons.1 hes
    have hsame : s.SameReader (s.afterEvent e) := by
      rcases he with rfl | rfl | rfl | rfl
      · rw [State.afterEvent, s.rxEvent_of_untaken (.inl hidle)]; exact .refl s
      · exact s.sameReader_txEvent
      · rw [State.afterEvent, State.tickEvent_of_idle hidle]; exact .refl s
      · exact .refl s
    exact hsame.trans (ih (hsame.rxBusy.symm.trans hidle) hes)

/-- A line or tick event that ends a collection leaves its cause (R162, R171). -/
theorem State.afterEvent_cause {e : Event} (hbusy : s.rxBusy = true) (he : e.IsLineOrTick)
    (hended : (s.afterEvent e).rxBusy = false) : (s.afterEvent e).doneCause ≠ .none := by
  have hcause (h : applyEvent .rx s = .next (s.afterEvent e) ∨ applyEvent .tick s = .next (s.afterEvent e)) :
      (s.afterEvent e).doneCause ≠ .none := by
    obtain ⟨u, hu, hend⟩ := rx_or_tick_ended hbusy h hended
    rw [hend] at hended ⊢
    rcases State.endCheck_ended hu hended with ⟨-, hfull⟩ | ⟨-, hdeadline⟩
    · simp [hfull]
    · simp [hdeadline]
  rcases he with rfl | rfl | rfl | rfl
  · exact hcause (.inl rfl)
  · rw [State.afterEvent, ← s.sameReader_txEvent.rxBusy, hbusy] at hended
    cases hended
  · exact hcause (.inr rfl)
  · rw [State.afterEvent, hbusy] at hended
    cases hended

/-- Over line and tick events a collection that has ended has a cause, its DEADLINE, and counted no more than the ticks
that came. -/
theorem State.afterEvents_ended {es : List Event} (hinv : s.Inv) (hbusy : s.rxBusy = true)
    (hes : ∀ e ∈ es, e.IsLineOrTick) (hended : (s.afterEvents es).rxBusy = false) :
    (s.afterEvents es).doneCause ≠ .none ∧ (s.afterEvents es).deadline = s.deadline ∧
      (s.afterEvents es).elapsed.toNat ≤ s.elapsed.toNat + es.count .tick := by
  induction es generalizing s with
  | nil => rw [State.afterEvents_nil, hbusy] at hended; cases hended
  | cons e es ih =>
    obtain ⟨he, hes⟩ := List.forall_mem_cons.1 hes
    rw [State.afterEvents_cons] at hended ⊢
    have hreset : e ≠ .reset := by rcases he with rfl | rfl | rfl | rfl <;> nofun
    obtain ⟨hdeadline, helapsed⟩ := State.afterEvent_clock hinv hbusy hreset
    have hsplit : (e :: es).count .tick = [e].count .tick + es.count .tick := List.count_append (l₁ := [e])
    cases hnext : (s.afterEvent e).rxBusy with
    | true =>
      obtain ⟨hcause, hd, hticks⟩ := ih (hinv.afterEvent e) hnext hes hended
      exact ⟨hcause, hd.trans hdeadline, by omega⟩
    | false =>
      have hsame := State.sameReader_afterEvents_of_idle hnext hes
      rw [← hsame.doneCause, ← hsame.deadline, ← hsame.elapsed]
      exact ⟨State.afterEvent_cause hbusy he hnext, hdeadline, by omega⟩

end

/-! ### The statements -/

/-- Settles O23, by induction on the events of the run. -/
theorem framesAreSentWholeAndInOrder : Obligations.FramesAreSentWholeAndInOrder := by
  unfold Obligations.FramesAreSentWholeAndInOrder
  intro s n hw _ hreset hcount
  exact ⟨_, run_eq_next n hw, State.afterEvents_txLine (s := s.withSched _) hreset hcount⟩

/-- Settles O31: the cause is FULL or DEADLINE, and the invariants say what each means for the count. -/
theorem collectionNeverEndsEarly : Obligations.CollectionNeverEndsEarly := by
  unfold Obligations.CollectionNeverEndsEarly
  intro s t n hw hinv hbusy hes h hended
  rw [run_eq_next n hw] at h
  cases h
  have hstart : (s.withSched (s.sched.drop n)).Inv := hinv.withSched _
  have hinv' := hstart.afterEvents (s.sched.take n)
  obtain ⟨hcause, hdeadline, hticks⟩ := State.afterEvents_ended hstart hbusy hes hended
  generalize (s.withSched (s.sched.drop n)).afterEvents (s.sched.take n) = t at *
  cases ht : t.doneCause with
  | none => exact absurd ht hcause
  | full => exact .inl ⟨rfl, hinv'.full_means_target hended ht⟩
  | deadline =>
    obtain ⟨hshort, hat⟩ := hinv'.deadline_means_short ht
    have hspent : s.deadline.toNat ≤ s.elapsed.toNat + (s.sched.take n).count .tick := by
      rw [hat, hdeadline] at hticks
      exact hticks
    exact .inr ⟨rfl, hshort, by omega⟩

/-- Settles O32: the part of the events that ends the collection is itself a run. -/
theorem collectionsEndWithinTheirTicks : Obligations.CollectionsEndWithinTheirTicks := by
  unfold Obligations.CollectionsEndWithinTheirTicks
  intro s n hw hinv hbusy hticks
  obtain ⟨k, hk, hended⟩ := State.exists_ended hinv hbusy hticks
  have hkn : k ≤ n := hk.trans (List.length_take_le n _)
  rw [List.take_take, min_eq_left hkn] at hended
  refine ⟨k, _, hkn, run_eq_next k hw, ?_⟩
  rw [State.afterEvents_withSched]
  exact hended

end Sys2Proof.Machine
end

section
/-! No earlier exchange matters (R59): the reader, the bytes with the transport and the configuration determine how a
collection goes on and what the decoders then give, and COLLECT starts the reader from its operands alone. -/

namespace Sys2Proof.Machine

/-! ### States that collect and decode alike (R59) -/

/-- Two states whose collections are alike: the same reader state, bytes to come and configuration. -/
structure State.SameExchange (s t : State) : Prop where
  reader : s.SameReader t
  rxLine : s.rxLine = t.rxLine
  config : s.config = t.config

section
variable {s t : State}

theorem State.SameReader.symm (h : s.SameReader t) : t.SameReader s :=
  ⟨h.rxbuf.symm, h.rxlen.symm, h.target.symm, h.expid.symm, h.deadline.symm, h.elapsed.symm, h.rxBusy.symm,
    h.doneCause.symm, h.resyncCnt.symm⟩

theorem State.SameReader.endCheck (h : s.SameReader t) : s.endCheck.SameReader t.endCheck := by
  cases t
  obtain ⟨rfl, rfl, rfl, rfl, rfl, rfl, rfl, rfl, rfl⟩ := h
  simp only [State.endCheck]
  split_ifs <;> exact ⟨rfl, rfl, rfl, rfl, rfl, rfl, rfl, rfl, rfl⟩

theorem State.SameReader.resync (h : s.SameReader t) : s.resync.SameReader t.resync := by
  cases t
  obtain ⟨rfl, rfl, rfl, rfl, rfl, rfl, rfl, rfl, rfl⟩ := h
  simp only [State.resync]
  split_ifs <;> exact ⟨rfl, rfl, rfl, rfl, rfl, rfl, rfl, rfl, rfl⟩

theorem State.SameReader.appendByte (h : s.SameReader t) (b : Byte) :
    (s.appendByte b).SameReader (t.appendByte b) := by
  cases t
  obtain ⟨rfl, rfl, rfl, rfl, rfl, rfl, rfl, rfl, rfl⟩ := h
  exact ⟨rfl, rfl, rfl, rfl, rfl, rfl, rfl, rfl, rfl⟩

theorem State.SameExchange.rxEvent (h : s.SameExchange t) : s.rxEvent.SameExchange t.rxEvent := by
  rcases s.rxEvent_cases with ⟨huntaken, hs⟩ | ⟨b, rest, hbusy, hline, hs⟩
  · have ht : t.rxEvent = t := t.rxEvent_of_untaken (by rwa [← h.reader.rxBusy, ← h.rxLine])
    rw [hs, ht]
    exact h
  · have ht : t.rxEvent = State.rxByte b { t with rxLine := rest } :=
      State.rxEvent_of_collecting (h.reader.rxBusy.symm.trans hbusy) (h.rxLine.symm.trans hline)
    have hreader : State.SameReader { s with rxLine := rest } { t with rxLine := rest } := { h.reader with }
    rw [hs, ht]
    exact ⟨(hreader.appendByte b).resync.endCheck, by simp [State.rxByte], by simp [State.rxByte, h.config]⟩

theorem State.SameExchange.txEvent (h : s.SameExchange t) : s.txEvent.SameExchange t.txEvent := by
  obtain ⟨-, hsconfig, hsline, -⟩ := s.txEvent_frame
  obtain ⟨-, htconfig, htline, -⟩ := t.txEvent_frame
  exact ⟨(s.sameReader_txEvent.symm.trans h.reader).trans t.sameReader_txEvent, by rw [hsline, htline, h.rxLine],
    by rw [hsconfig, htconfig, h.config]⟩

theorem State.SameReader.tickEvent (h : s.SameReader t) : s.tickEvent.SameReader t.tickEvent := by
  cases hbusy : s.rxBusy with
  | false =>
    rw [State.tickEvent_of_idle hbusy, State.tickEvent_of_idle (h.rxBusy.symm.trans hbusy)]
    exact h
  | true =>
    have hcounted : State.SameReader { s with elapsed := s.elapsed + 1 } { t with elapsed := t.elapsed + 1 } :=
      { h with elapsed := congrArg (· + 1) h.elapsed }
    rw [State.tickEvent_of_collecting hbusy, State.tickEvent_of_collecting (h.rxBusy.symm.trans hbusy)]
    exact hcounted.endCheck

theorem State.SameExchange.tickEvent (h : s.SameExchange t) : s.tickEvent.SameExchange t.tickEvent := by
  obtain ⟨-, hsconfig, -⟩ := s.tickEvent_frame
  obtain ⟨-, htconfig, -⟩ := t.tickEvent_frame
  exact ⟨h.reader.tickEvent,
    s.sameSurroundings_tickEvent.rxLine.symm.trans (h.rxLine.trans t.sameSurroundings_tickEvent.rxLine),
    by rw [hsconfig, htconfig, h.config]⟩

theorem State.SameExchange.afterEvents {es : List Event} (h : s.SameExchange t) (hes : ∀ e ∈ es, e.IsLineOrTick) :
    (s.afterEvents es).SameExchange (t.afterEvents es) := by
  induction es generalizing s t with
  | nil => exact h
  | cons e es ih =>
    obtain ⟨he, hes⟩ := List.forall_mem_cons.1 hes
    refine ih ?_ hes
    rcases he with rfl | rfl | rfl | rfl
    · exact h.rxEvent
    · exact h.txEvent
    · exact h.tickEvent
    · exact h

/-- Decoders whose checks agree, and whose results agree, leave the same results. -/
theorem State.sameResults_decodeWith {check : State → ResFail} {result : State → State}
    (hcheck : check s.clearResults = check t.clearResults)
    (hresult : (result s.clearResults).SameResults (result t.clearResults)) :
    (s.decodeWith check result).SameResults (t.decodeWith check result) := by
  by_cases hpass : check s.clearResults = .none
  · rw [State.decodeWith_of_pass hpass, State.decodeWith_of_pass (hcheck.symm.trans hpass)]
    exact hresult
  · rw [State.decodeWith_of_fail hpass, State.decodeWith_of_fail (hcheck.symm.trans_ne hpass), hcheck]
    exact ⟨rfl, rfl, rfl, rfl, rfl, rfl, rfl, rfl⟩

/-- The decoders read the reader state and the firmware offsets only (R190). -/
theorem State.SameExchange.sameResults_bodyOf (h : s.SameExchange t) {d : Instr}
    (hd : d ∈ [Instr.decodeFw, .decodeMode, .decodeData]) : (bodyOf d s).SameResults (bodyOf d t) := by
  cases t
  obtain ⟨⟨rfl, rfl, rfl, rfl, rfl, rfl, rfl, rfl, rfl⟩, -, rfl⟩ := h
  simp only [List.mem_cons, List.not_mem_nil, or_false] at hd
  rcases hd with rfl | rfl | rfl
  · exact State.sameResults_decodeWith rfl ⟨rfl, rfl, rfl, rfl, rfl, rfl, rfl, rfl⟩
  · exact State.sameResults_decodeWith rfl ⟨rfl, rfl, rfl, rfl, rfl, rfl, rfl, rfl⟩
  · exact State.sameResults_decodeWith rfl ⟨rfl, rfl, rfl, rfl, rfl, rfl, rfl, rfl⟩

/-- COLLECT starts the reader alike in both (R160, R59). -/
theorem State.sameExchange_collectBody {expid : Byte} {target : BitVec 4} {deadline : BitVec deadlineW}
    (hline : s.rxLine = t.rxLine) (hconfig : s.config = t.config) (htarget : target.toNat ≤ 10) :
    (s.collectBody expid target deadline).SameExchange (t.collectBody expid target deadline) := by
  obtain ⟨-, -, hslines, -, hsconfig⟩ := s.collectBody_frame expid target deadline
  obtain ⟨-, -, htlines, -, htconfig⟩ := t.collectBody_frame expid target deadline
  refine ⟨?reader, hslines.rxLine.symm.trans (hline.trans htlines.rxLine),
    hsconfig.trans (hconfig.trans htconfig.symm)⟩
  rw [s.collectBody_of_le htarget, t.collectBody_of_le htarget]
  exact State.SameReader.endCheck ⟨rfl, rfl, rfl, rfl, rfl, rfl, rfl, rfl, rfl⟩

end

/-- Settles O35: COLLECT starts both readers alike, the events keep them alike, and the decoders read nothing else. -/
theorem earlierExchangesDoNotMatter : Obligations.EarlierExchangesDoNotMatter := by
  unfold Obligations.EarlierExchangesDoNotMatter
  intro s t expid target deadline es hw hconfig hsidle htidle hsptr htptr htarget hline hssched htsched hes
  obtain ⟨-, -, hslines, -, hsconfig⟩ := s.collectBody_frame expid target deadline
  obtain ⟨-, -, htlines, -, htconfig⟩ := t.collectBody_frame expid target deadline
  have hstart := State.sameExchange_collectBody (expid := expid) (deadline := deadline) hline hconfig htarget
  have hwithout : ((s.collectBody expid target deadline).withSched []).SameExchange
      ((t.collectBody expid target deadline).withSched []) := ⟨{ hstart.reader with }, hstart.rxLine, hstart.config⟩
  have hend := hwithout.afterEvents hes
  refine ⟨_, _, _, _, exec_collect_of_idle s hsidle hsptr, exec_collect_of_idle t htidle htptr,
    run_append_eq_next (hsconfig ▸ hw) (hslines.sched.symm.trans (hssched.trans es.append_nil.symm)),
    run_append_eq_next (htconfig ▸ hconfig ▸ hw) (htlines.sched.symm.trans (htsched.trans es.append_nil.symm)),
    hend.reader, hend.rxLine, fun hidle d hd => ?decode⟩
  case decode =>
    have hcell (u : State) : u.refusedBusy d = u.rxBusy := refusedBusy_decodeForm (List.mem_cons_of_mem _ hd) u
    exact ⟨_, _, exec_of_free d ((hcell _).trans hidle),
      exec_of_free d ((hcell _).trans (hend.reader.rxBusy.symm.trans hidle)), hend.sameResults_bodyOf hd⟩

end Sys2Proof.Machine
end

section
/-! Resynchronisation (R166, R173). A reader with an empty buffer that gets a wrong pair has an empty buffer again, so
it discards a stream of wrong pairs two by two; it then starts on the frame behind them and collects it byte by byte. -/

namespace Sys2Proof.Machine

/-- A collection of a ten-byte frame is running. -/
structure State.CollectsTen (s : State) : Prop where
  inv : s.Inv
  busy : s.rxBusy = true
  target : s.target.toNat = 10

/-- The bytes the receive buffer holds, in the order they came. -/
structure State.Holds (s : State) (bytes : List Byte) : Prop where
  rxlen : s.rxlen.toNat = bytes.length
  rxbuf : s.rxbuf.toList.take bytes.length = bytes

/-- The block with the next byte of the receive line appended to its buffer, unchecked. -/
def State.taking (b : Byte) (rest : List Byte) (s : State) : State := State.appendByte b { s with rxLine := rest }

section
variable {s : State} {b : Byte} {rest : List Byte}

theorem State.holds_nil (h : s.rxlen = 0) : s.Holds [] := ⟨by rw [h]; rfl, rfl⟩

/-- The byte is held behind the bytes held before. -/
theorem State.Holds.taking {p : List Byte} (hp : s.Holds p) (hcap : p.length < 10) :
    (s.taking b rest).Holds (p ++ [b]) where
  rxlen := by
    have hlen : s.rxlen.toNat < 15 := by rw [hp.rxlen]; omega
    rw [List.length_append, ← hp.rxlen]
    exact rxlen_succ hlen
  rxbuf := by
    have hset : (s.taking b rest).rxbuf.toList = s.rxbuf.toList.set p.length b := by
      rw [← hp.rxlen]
      exact Vector.toList_setIfInBounds
    have hlen : p.length < s.rxbuf.toList.length := by rw [Vector.length_toList]; exact hcap
    rw [hset, List.length_append, List.length_singleton, List.take_add_one, List.take_set_of_le le_rfl, hp.rxbuf,
      List.getElem?_set_self hlen]
    rfl

/-- A byte that passes the check is taken, and then the end check is made (R165). -/
theorem State.CollectsTen.rxEvent_of_pass (h : s.CollectsTen) (hline : s.rxLine = b :: rest)
    (hpass : s.rxlen.toNat = 1 → s.rxbuf[0] = 0xAA ∧ b = s.expid) : s.rxEvent = (s.taking b rest).endCheck := by
  have hcap : s.rxlen.toNat < 10 := (h.inv.busy_not_full h.busy).trans_eq h.target
  rw [State.rxEvent_of_collecting h.busy hline, State.rxByte,
    State.resync_appendByte_of_pass (s := { s with rxLine := rest }) hcap h.inv.synced hpass]
  rfl

/-- It leaves the collection running while the buffer holds less than ten bytes. -/
theorem State.CollectsTen.endCheck_taking (h : s.CollectsTen) (hlen : (s.taking b rest).rxlen.toNat < 10) :
    (s.taking b rest).endCheck = s.taking b rest :=
  State.endCheck_of_running (hlen.trans_eq h.target.symm) (h.inv.busy_not_expired h.busy)

theorem State.CollectsTen.taking (h : s.CollectsTen) (hline : s.rxLine = b :: rest)
    (hpass : s.rxlen.toNat = 1 → s.rxbuf[0] = 0xAA ∧ b = s.expid) (hlen : (s.taking b rest).rxlen.toNat < 10) :
    (s.taking b rest).CollectsTen where
  inv := by
    rw [← h.endCheck_taking hlen, ← h.rxEvent_of_pass hline hpass]
    exact h.inv.rxEvent
  busy := h.busy
  target := h.target

/-! ### Wrong pairs (R166) -/

/-- A wrong pair is taken and discarded: the buffer is empty again, and RESYNC_CNT counts one more. -/
theorem State.CollectsTen.afterEvents_wrong_pair {a : Byte} (h : s.CollectsTen) (hempty : s.rxlen = 0)
    (hline : s.rxLine = a :: b :: rest) (hwrong : ¬ (a = 0xAA ∧ b = s.expid)) :
    s.afterEvents [.rx, .rx] = State.discard { s with rxLine := rest } := by
  have hone : (s.taking a (b :: rest)).rxlen.toNat = 1 := by rw [State.taking, State.appendByte_rxlen, hempty]; rfl
  have hpass : s.rxlen.toNat = 1 → s.rxbuf[0] = 0xAA ∧ a = s.expid := fun hlen => by simp [hempty] at hlen
  have hfirst : s.rxEvent = s.taking a (b :: rest) := by
    rw [h.rxEvent_of_pass hline hpass, h.endCheck_taking (by omega)]
  have hfail : ¬ ((s.taking a (b :: rest)).rxbuf[0] = 0xAA ∧ b = s.expid) := by
    simpa [State.taking, hempty] using hwrong
  have hsecond : (s.taking a (b :: rest)).rxEvent = State.discard { s with rxLine := rest } :=
    (State.rxEvent_of_collecting (s := s.taking a (b :: rest)) h.busy rfl).trans
      (State.rxByte_of_fail hone hfail (h.target.symm ▸ (by decide : 0 < 10)) (h.inv.busy_not_expired h.busy))
  rw [State.afterEvents_cons, State.afterEvents_cons, State.afterEvents_nil, State.afterEvent, State.afterEvent, hfirst,
    hsecond]

/-- A stream of wrong pairs is discarded pair by pair (R173). -/
theorem State.CollectsTen.afterEvents_wrong_pairs {m : Nat} {l : List Byte} (h : s.CollectsTen) (hempty : s.rxlen = 0)
    (hlen : l.length = 2 * m) (hwrong : ∀ k, ¬ (l[2 * k]? = some 0xAA ∧ l[2 * k + 1]? = some s.expid))
    (hline : s.rxLine = l ++ rest) :
    ∃ t, s.afterEvents (List.replicate (2 * m) .rx) = t ∧ t.CollectsTen ∧ t.rxlen = 0 ∧ t.expid = s.expid ∧
      t.rxLine = rest ∧ t.resyncCnt.toNat = min (s.resyncCnt.toNat + m) 0xFFFF := by
  induction m generalizing s l with
  | zero =>
    obtain rfl : l = [] := List.eq_nil_of_length_eq_zero hlen
    have hcount : s.resyncCnt.toNat < 2 ^ 16 := s.resyncCnt.isLt
    exact ⟨s, rfl, h, hempty, rfl, hline, by omega⟩
  | succ m ih =>
    obtain ⟨a, b, l, rfl⟩ : ∃ a b l', l = a :: b :: l' := by
      match l, hlen with
      | a :: b :: l', _ => exact ⟨a, b, l', rfl⟩
    have hpair : ¬ (a = 0xAA ∧ b = s.expid) := by simpa using hwrong 0
    have hafter := h.afterEvents_wrong_pair hempty hline hpair
    have hnext : (State.discard { s with rxLine := l ++ rest }).CollectsTen :=
      ⟨hafter ▸ h.inv.afterEvents _, h.busy, h.target⟩
    have hlen' : l.length = 2 * m := by simp only [List.length_cons] at hlen; omega
    obtain ⟨t, ht, hten, hnil, hexpid, hrest, hcount⟩ := ih (l := l) hnext rfl hlen'
      (fun k => by simpa [Nat.mul_succ] using hwrong (k + 1)) rfl
    refine ⟨t, ?_, hten, hnil, hexpid, hrest, ?_⟩
    · rw [Nat.mul_succ, Nat.add_comm, List.replicate_add, State.afterEvents_append, ← ht]
      exact congrArg (State.afterEvents · _) hafter
    · rw [hcount, State.discard_resyncCnt, resyncNext_toNat]
      dsimp only
      omega

/-! ### The frame (R165) -/

/-- The frame's bytes pass the check one by one, and the tenth ends the collection (R162, R165). -/
theorem State.CollectsTen.afterEvents_frame {p l : List Byte} (h : s.CollectsTen) (hp : s.Holds p) (hne : l ≠ [])
    (hlen : (p ++ l).length = 10) (hhead : (p ++ l)[0]? = some 0xAA) (hid : (p ++ l)[1]? = some s.expid)
    (hline : s.rxLine = l ++ rest) :
    ∃ t, s.afterEvents (List.replicate l.length .rx) = t ∧ t.Holds (p ++ l) ∧ t.rxBusy = false ∧ t.doneCause = .full ∧
      t.resyncCnt = s.resyncCnt ∧ t.rxLine = rest := by
  induction l generalizing s p with
  | nil => exact absurd rfl hne
  | cons b l ih =>
    have hcap : p.length < 10 := by rw [List.length_append, List.length_cons] at hlen; omega
    have hpass : s.rxlen.toNat = 1 → s.rxbuf[0] = 0xAA ∧ b = s.expid := by
      intro hone
      rw [hp.rxlen] at hone
      obtain ⟨x, rfl⟩ := List.length_eq_one_iff.1 hone
      have hfirst : s.rxbuf.toList[0]? = some x := by
        rw [← List.getElem?_take_of_lt Nat.one_pos, ← List.length_singleton (a := x), hp.rxbuf]
        rfl
      have hx : s.rxbuf[0] = x := by simpa using hfirst
      exact ⟨hx.trans (Option.some.inj hhead), Option.some.inj hid⟩
    have hheld : (s.taking b (l ++ rest)).Holds (p ++ [b]) := hp.taking hcap
    have hevent : s.rxEvent = (s.taking b (l ++ rest)).endCheck := h.rxEvent_of_pass hline hpass
    rw [List.append_cons] at hlen hhead hid ⊢
    rw [List.length_cons, List.replicate_succ, State.afterEvents_cons, State.afterEvent, hevent]
    have hcount : (s.taking b (l ++ rest)).rxlen.toNat = (p ++ [b]).length := hheld.rxlen
    cases l with
    | nil =>
      rw [List.append_nil] at hlen ⊢
      have hfull : s.target.toNat ≤ (s.taking b ([] ++ rest)).rxlen.toNat :=
        (h.target.trans (hlen.symm.trans hcount.symm)).le
      rw [State.endCheck_of_full (s := s.taking b ([] ++ rest)) h.busy hfull]
      exact ⟨_, rfl, ⟨hheld.rxlen, hheld.rxbuf⟩, rfl, rfl, rfl, rfl⟩
    | cons c l =>
      have hroom : (s.taking b (c :: l ++ rest)).rxlen.toNat < 10 := by
        rw [List.length_append, List.length_cons] at hlen
        omega
      rw [h.endCheck_taking hroom]
      exact ih (h.taking hline hpass hroom) hheld (List.cons_ne_nil _ _) hlen hhead hid rfl

end

/-- Settles O33: six wrong pairs, and then the frame. -/
theorem resyncYieldsTheSecondFrame : Obligations.ResyncYieldsTheSecondFrame := by
  unfold Obligations.ResyncYieldsTheSecondFrame
  intro s e wrongId nine eight rest es hw hinv hbusy hempty htarget hexpid hcnt hnine height hpairs hline hsched
  have hwrong : ∀ k, ¬ ((0x00 :: 0xAA :: wrongId :: nine)[2 * k]? = some 0xAA ∧
      (0x00 :: 0xAA :: wrongId :: nine)[2 * k + 1]? = some s.expid) := by
    intro k
    rw [hexpid]
    cases k with
    | zero => simp
    | succ k =>
      by_cases hk : k < 5
      · simpa [Nat.mul_succ] using hpairs k hk
      · have hnone : (wrongId :: nine)[2 * k]? = none := List.getElem?_eq_none (by simp [hnine]; omega)
        simp [Nat.mul_succ, hnone]
  have hstart : (s.withSched es).CollectsTen := ⟨hinv.withSched es, hbusy, htarget⟩
  obtain ⟨t, ht, hten, hnil, htexpid, htline, htcnt⟩ :=
    hstart.afterEvents_wrong_pairs (m := 6) (l := 0x00 :: 0xAA :: wrongId :: nine) (rest := 0xAA :: e :: eight ++ rest)
      hempty (by simp [hnine]) hwrong (hline.trans (by simp))
  obtain ⟨u, hu, hheld, hidle, hcause, hucnt, huline⟩ :=
    hten.afterEvents_frame (p := []) (l := 0xAA :: e :: eight) (rest := rest) (State.holds_nil hnil)
      (List.cons_ne_nil _ _) (by simp [height]) rfl (htexpid.trans hexpid ▸ rfl) htline
  have hlen : (0xAA :: e :: eight).length = 10 := by simp [height]
  have hrun : (s.withSched es).afterEvents (List.replicate 22 .rx) = u := by
    rw [← hu, ← ht, hlen, ← State.afterEvents_append, ← List.replicate_add]
  have hbuf : u.rxbuf.toList = 0xAA :: e :: eight := by
    have htake := hheld.rxbuf
    rwa [List.nil_append, hlen, List.take_of_length_le (Vector.length_toList).le] at htake
  refine ⟨u, ?run, hbuf, hheld.rxlen.trans hlen, hidle, hcause, ?discards, huline, ?sched⟩
  case run => exact (run_append_eq_next hw hsched).trans (congrArg _ hrun)
  case discards =>
    have hzero : (s.withSched es).resyncCnt.toNat = 0 := congrArg BitVec.toNat hcnt
    rw [hucnt, htcnt, hzero]
    rfl
  case sched => rw [← hrun, State.afterEvents_sched]; rfl

end Sys2Proof.Machine
end

section
/-! What the host reads and does: VSTAT and TXINFO (R50, R51, R140 to R148), the meaning of a raw PM pattern (R195,
R196), and the outcome of a poll cycle (R264). First the fields of the two registers and what each flag of theirs says;
the statements are put together from these. -/

namespace Sys2Proof.Machine

section
variable (s : State)

/-! ### The fields of VSTAT and TXINFO (R50, R51) -/

theorem State.vstat_lenOk : s.vstat.getLsbD 0 = s.lenOk :=
  getLsbD_of_extractLsb'_flagBit BitVec.extractLsb'_append_eq_right

theorem State.vstat_headOk : s.vstat.getLsbD 1 = s.headOk := by
  apply getLsbD_of_extractLsb'_flagBit
  simp [-Nat.reduceAdd, State.vstat, BitVec.extractLsb'_append_eq_of_le, BitVec.extractLsb'_append_eq_right]

theorem State.vstat_idOk : s.vstat.getLsbD 2 = s.idOk := by
  apply getLsbD_of_extractLsb'_flagBit
  simp [-Nat.reduceAdd, State.vstat, BitVec.extractLsb'_append_eq_of_le, BitVec.extractLsb'_append_eq_right]

theorem State.vstat_tailOk : s.vstat.getLsbD 3 = s.tailOk := by
  apply getLsbD_of_extractLsb'_flagBit
  simp [-Nat.reduceAdd, State.vstat, BitVec.extractLsb'_append_eq_of_le, BitVec.extractLsb'_append_eq_right]

theorem State.vstat_frameValid : s.vstat.getLsbD 4 = s.frameValid := by
  apply getLsbD_of_extractLsb'_flagBit
  simp [-Nat.reduceAdd, State.vstat, BitVec.extractLsb'_append_eq_of_le, BitVec.extractLsb'_append_eq_right]

theorem State.vstat_sumOk : s.vstat.getLsbD 5 = s.sumOk := by
  apply getLsbD_of_extractLsb'_flagBit
  simp [-Nat.reduceAdd, State.vstat, BitVec.extractLsb'_append_eq_of_le, BitVec.extractLsb'_append_eq_right]

theorem State.vstat_upper_zero : s.vstat.extractLsb' 6 26 = 0 := by
  simp [-Nat.reduceAdd, State.vstat, BitVec.extractLsb'_append_eq_of_le]

theorem State.txinfo_txptr : s.txinfo.extractLsb' 0 5 = s.txptr := BitVec.extractLsb'_append_eq_right

theorem State.txinfo_cmdSumOk : s.txinfo.getLsbD 5 = s.cmdSumOk := by
  apply getLsbD_of_extractLsb'_flagBit
  simp [-Nat.reduceAdd, State.txinfo, BitVec.extractLsb'_append_eq_of_le, BitVec.extractLsb'_append_eq_right]

theorem State.txinfo_middle_zero : s.txinfo.extractLsb' 6 2 = 0 := by
  simp [-Nat.reduceAdd, State.txinfo, BitVec.extractLsb'_append_eq_of_le, BitVec.extractLsb'_append_eq_right]

theorem State.txinfo_lastExpid : s.txinfo.extractLsb' 8 8 = s.lastExpid := by
  simp [-Nat.reduceAdd, State.txinfo, BitVec.extractLsb'_append_eq_of_le, BitVec.extractLsb'_append_eq_right]

theorem State.txinfo_upper_zero : s.txinfo.extractLsb' 16 16 = 0 := by
  simp [-Nat.reduceAdd, State.txinfo, BitVec.extractLsb'_append_eq_of_le]

/-! ### The validator's flags, as propositions (R140 to R146) -/

theorem State.lenOk_iff : s.lenOk = true ↔ s.rxlen.toNat = 10 := decide_eq_true_iff

theorem State.headOk_iff : s.headOk = true ↔ 1 ≤ s.rxlen.toNat ∧ s.rxbuf[0] = 0xAA := by simp [State.headOk]

theorem State.idOk_iff : s.idOk = true ↔ 2 ≤ s.rxlen.toNat ∧ s.rxbuf[1] = s.expid := by simp [State.idOk]

theorem State.tailOk_iff : s.tailOk = true ↔ s.rxlen.toNat = 10 ∧ s.rxbuf[9] = 0xAB := by simp [State.tailOk]

/-- The length 10 that LEN_OK asks for covers the lengths the other predicates ask for (R144). -/
theorem State.frameValid_iff :
    s.frameValid = true ↔ s.rxlen.toNat = 10 ∧ s.rxbuf[0] = 0xAA ∧ s.rxbuf[1] = s.expid ∧ s.rxbuf[9] = 0xAB := by
  simp only [State.frameValid, Bool.and_eq_true, s.lenOk_iff, s.headOk_iff, s.idOk_iff, s.tailOk_iff]
  constructor
  · rintro ⟨⟨⟨hlen, -, hhead⟩, -, hid⟩, -, htail⟩
    exact ⟨hlen, hhead, hid, htail⟩
  · rintro ⟨hlen, hhead, hid, htail⟩
    exact ⟨⟨⟨hlen, by omega, hhead⟩, by omega, hid⟩, hlen, htail⟩

/-- The six bytes SUM_OK adds up (R146). -/
theorem byteSum_summed (v : Vector Byte bufCap) :
    byteSum ((v.toList.drop 2).take 6) =
      v[2].toNat + v[3].toNat + v[4].toNat + v[5].toNat + v[6].toNat + v[7].toNat := by
  have hbytes : (v.toList.drop 2).take 6 = [v[2], v[3], v[4], v[5], v[6], v[7]] := by
    refine List.ext_getElem (by simp [bufCap]) fun i _ hi => ?_
    have hi : i < 6 := hi
    interval_cases i <;> simp
  simp [hbytes, byteSum, Nat.add_assoc]

theorem State.sumOk_iff :
    s.sumOk = true ↔ s.rxlen.toNat = 10 ∧ s.rxbuf[8].toNat =
      (s.rxbuf[2].toNat + s.rxbuf[3].toNat + s.rxbuf[4].toNat + s.rxbuf[5].toNat + s.rxbuf[6].toNat +
        s.rxbuf[7].toNat) % 256 := by
  rw [State.sumOk, Bool.and_eq_true, decide_eq_true_iff, decide_eq_true_iff, ← byteSum_summed]
  exact Iff.rfl

theorem byteSum_eq_foldl (l : List Byte) : byteSum l = l.foldl (fun n b => n + b.toNat) 0 := by
  rw [byteSum, List.sum_eq_foldl, List.foldl_map]

theorem State.cmdSumOk_iff :
    s.cmdSumOk = true ↔ s.lastcmdValid = true ∧
      s.txbuf[17].toNat = ((s.txbuf.toList.drop 2).take 15).foldl (fun n b => n + b.toNat) 0 % 256 := by
  rw [State.cmdSumOk, Bool.and_eq_true, decide_eq_true_iff, ← byteSum_eq_foldl]
  exact Iff.rfl

/-- The host's own test of a collection (R264). -/
theorem State.validatedFrame_iff :
    s.validatedFrame = true ↔ s.doneCause = .full ∧ s.rxlen.toNat = 10 ∧ s.frameValid = true := by
  simp [State.validatedFrame, and_assoc]

end

/-! ### The meaning of a raw PM pattern (R9, R195, R196) -/

theorem pmValue_append (lo hi : Byte) : pmValue (hi ++ lo) = s16 lo hi := by
  rw [pmValue, BitVec.extractLsb'_append_eq_right, BitVec.extractLsb'_append_eq_left]

/-- s16 of the two bytes is two's complement. -/
theorem pmValue_eq_toInt (raw : BitVec 16) : pmValue raw = raw.toInt := by
  have hlo : (raw.extractLsb' 0 8).toNat = raw.toNat / 2 ^ 0 % 2 ^ 8 := field_toNat raw 0 8
  have hhi : (raw.extractLsb' 8 8).toNat = raw.toNat / 2 ^ 8 % 2 ^ 8 := field_toNat raw 8 8
  have hraw := raw.isLt
  rw [pmValue, s16, BitVec.toInt_eq_toNat_cond, hlo, hhi]
  split <;> split <;> omega

/-! ### The statements -/

/-- Settles O18, bit by bit. -/
theorem vstatShowsThePredicates : Obligations.VstatShowsThePredicates := by
  unfold Obligations.VstatShowsThePredicates
  intro s
  rw [State.reg, s.vstat_lenOk, s.vstat_headOk, s.vstat_idOk, s.vstat_tailOk, s.vstat_frameValid, s.vstat_sumOk]
  exact ⟨s.lenOk_iff, s.headOk_iff, s.idOk_iff, s.tailOk_iff, s.frameValid_iff, s.sumOk_iff, s.vstat_upper_zero⟩

/-- Settles O19, field by field. -/
theorem txinfoShowsTheTransmitter : Obligations.TxinfoShowsTheTransmitter := by
  unfold Obligations.TxinfoShowsTheTransmitter
  intro s
  rw [State.reg, s.txinfo_cmdSumOk]
  exact ⟨s.txinfo_txptr, s.cmdSumOk_iff, s.txinfo_middle_zero, s.txinfo_lastExpid, s.txinfo_upper_zero⟩

/-- Settles O44: the pattern's range is that of two's complement. -/
theorem pmIsSignedTenths : Obligations.PmIsSignedTenths := by
  unfold Obligations.PmIsSignedTenths
  refine ⟨pmValue_append, fun raw => ⟨pmValue_eq_toInt raw, ?low, ?high, ?tenths⟩⟩
  case low => rw [pmValue_eq_toInt]; exact raw.le_toInt
  case high => rw [pmValue_eq_toInt]; exact Int.le_of_lt_add_one raw.toInt_lt
  case tenths => rw [pmPhysical, Rat.mkRat_eq_div, Nat.cast_ofNat, div_mul_cancel₀ _ (by norm_num)]

/-- Settles O60, by the branches of a poll in the phase ReadingFrame. -/
theorem pollCycleOutcome : Obligations.PollCycleOutcome := by
  unfold Obligations.PollCycleOutcome
  intro p h s hstopped hphase hidle
  have hpoll : pollStep p h s =
      if h.decodeIssued then (none, { h with phase := if s.resKind = .none then .failed else .decoded, waited := 0 })
      else if s.validatedFrame then (some .decodeAuto, { h with decodeIssued := true })
      else (none, { h with phase := .failed, waited := 0 }) := by
    simp [pollStep, hstopped, hphase, hidle]
  rw [hpoll]
  refine ⟨fun hissued hvalid => ?decode, fun hissued hinvalid => ?fail, fun hissued hkind => ?decoded,
    fun hissued hkind => ?failed⟩
  case decode => simp [hissued, s.validatedFrame_iff.2 hvalid, hphase]
  case fail =>
    have hnot : s.validatedFrame = false := Bool.eq_false_iff.2 (s.validatedFrame_iff.not.2 hinvalid)
    simp [hissued, hnot]
  case decoded => simp [hissued, hkind]
  case failed => simp [hissued, hkind]

end Sys2Proof.Machine
end
